-- ==== Sys2Proof/Word.lean ====
section
/-! DEFINITION. Bytes, timers and the plainest arithmetic the manual's words name (saturate, wrap). -/

namespace Sys2Proof

/-- A byte on a port or on a module link (11_link_formats.md). -/
abbrev Byte := BitVec 8

/-- A voltage on an analog input, in microvolts. Every order of a voltage against a ladder step of R23
(a multiple of 20 mV) can be written so (log 9). -/
abbrev Microvolts := Nat

/-- A timer: stopped, or running with so many microseconds left. -/
abbrev Timer := Option Nat

/-- A saturating step upward (00_scope.md section 4). -/
def satInc (top n : Nat) : Nat := if n < top then n + 1 else top

/-- Some microseconds pass for a timer. It stays running at 0 until its expiry is taken (log 2). -/
def Timer.elapse (us : Nat) (t : Timer) : Timer := t.map (· - us)

/-- The byte that carries a number. -/
def toByte (n : Nat) : Byte := BitVec.ofNat 8 n

/-- A bit of a burst byte. -/
def bitAt (b : Bool) (i : Nat) : Nat := if b then 2 ^ i else 0

/-- Two bytes, most significant first (11_link_formats.md). -/
def bytes2 (n : Nat) : List Byte := [toByte (n / 256), toByte n]

/-- Three bytes, most significant first. -/
def bytes3 (n : Nat) : List Byte := [toByte (n / 65536), toByte (n / 256), toByte n]

/-- The number two bytes carry. -/
def num2 (hi lo : Byte) : Nat := hi.toNat * 256 + lo.toNat

/-- The number three bytes carry. -/
def num3 (hi mid lo : Byte) : Nat := hi.toNat * 65536 + mid.toNat * 256 + lo.toNat

end Sys2Proof
end

