-- ==== Sys2Proof/Syntax.lean ====
section
/-! DEFINITION. The commands of the block: one constructor for each row of spec/opcode_table.json. The table
gives the rows no operands, so the operands are the model's (log 1). -/

namespace Sys2Proof

/-- RCU 0 and RCU 1. -/
inductive RcuId where
  | rcu0
  | rcu1
  deriving DecidableEq, Repr

/-- A face of the post, and its panel port. -/
inductive Side where
  | a
  | b
  deriving DecidableEq, Repr

/-- The three call records (R95). -/
inductive RecId where
  | sideA
  | sideB
  | test
  deriving DecidableEq, Repr

/-- The three select-framed ports. -/
inductive PortId where
  | panelA
  | panelB
  | cabinet
  deriving DecidableEq, Repr

/-- The timing and threshold settings of R160 (THRESHOLDS has a row of its own). -/
inductive SettingItem where
  | levelFloor
  | agePeriod
  | surveyPeriod
  | kindBonuses
  | regainWindow
  | answerTimeout
  | callbackWindow
  | dozeDelay
  deriving DecidableEq, Repr

/-- The fields an ACCEPTED may report (Table 11-2), as the bytes carry them. -/
structure CellReport where
  band : Byte
  channel : BitVec 16
  carrier : BitVec 16
  kind : Byte
  barring : Byte
  deriving DecidableEq, Repr

/-- One event of the part. `r` names the RCU whose module link, limit, timer or gate it is. A `tag` is the tag
byte the frame carries. A voltage operand is what stands on the analog line that a conversion started at this
event samples (R23, log 9). `clocks` counts the bytes clocked out after a read header, and `early` says that
the first of them is clocked sooner than 20 µs after the header (R148, log 8). -/
inductive Instr where
  -- frames from a module
  | moduleAcknowledgement (r : RcuId) (tag : Byte)
  | settled (r : RcuId) (tag : Byte) (level : Microvolts)
  | heard (r : RcuId) (tag : Byte) (carrier : BitVec 16) (kind barring : Byte)
  | notHeard (r : RcuId) (tag : Byte)
  | accepted (r : RcuId) (tag : Byte) (report : Option CellReport)
  | rejectedBarred (r : RcuId) (tag : Byte)
  | rejectedSubscription (r : RcuId) (tag : Byte)
  | rejectedCongested (r : RcuId) (tag : Byte)
  | noCell (r : RcuId) (tag : Byte)
  | alerting (r : RcuId) (tag : Byte)
  | answered (r : RcuId) (tag : Byte)
  | dialRejected (r : RcuId) (tag : Byte)
  | delivered (r : RcuId) (tag : Byte)
  | notDelivered (r : RcuId) (tag : Byte)
  | done (r : RcuId) (tag : Byte)
  | camped (r : RcuId) (tag : Byte)
  | cancelDone (r : RcuId) (tag : Byte)
  | ready (r : RcuId)
  | linkLost (r : RcuId)
  | farRelease (r : RcuId)
  | answeredNotice (r : RcuId)
  | paged (r : RcuId)
  | cellLost (r : RcuId)
  /-- The bytes that arrive, and then the gap of more than 2 ms. -/
  | linkGap (r : RcuId) (before : List Byte)
  -- limits and timers
  | ackLimitExpiry (r : RcuId)
  | failureExpiry (r : RcuId)
  | faultExpiry (r : RcuId)
  | answerTimerExpiry (r : RcuId)
  | readyTimerExpiry (r : RcuId)
  | dozeTimerExpiry (r : RcuId)
  | recoveryTimerExpiry (r : RcuId)
  | pauseTimerExpiry (k : RecId)
  | regainTimerExpiry (k : RecId)
  | ringTimerExpiry (k : RecId)
  | windowExpiry
  | ageTick
  | surveyTimerExpiry
  | sampleTimerExpiry (battery : Microvolts)
  | elapsedSecond
  | cabinetHoldEnd (battery : Microvolts)
  -- measuring
  /-- `next` stands on the line of the conversion that starts at this event, if one does. -/
  | conversionComplete (next : Microvolts)
  | gateOpen (r : RcuId) (syncHigh : Bool)
  | syncRisingEdge (r : RcuId)
  | gateClose (r : RcuId)
  | continuousWindowClose (r : RcuId) (level : Microvolts)
  -- supply
  | powerOn
  | brownOutAssert
  | brownOutDeassert (battery : Microvolts)
  -- ports
  | selectAssert (port : PortId)
  /-- Whole bytes clocked since the last event at the port, and then the deselect. -/
  | selectDeassert (port : PortId) (clocked : List Byte) (early : Bool)
  | status (side : Side) (clocks : Nat) (early : Bool)
  | peek (side : Side) (clocks : Nat) (early : Bool)
  | ignoredHeader (port : PortId) (header : Byte) (data : List Byte)
  | call (side : Side)
  | hangup (side : Side)
  | answer (side : Side)
  | unknownCommand (side : Side) (code : Byte)
  | cabinetStatus (clocks : Nat) (early : Bool)
  | tableEntry (clocks : Nat) (early : Bool)
  | tableSelect (slot : Byte)
  | settingWrite (item : SettingItem) (data : List Byte)
  | thresholds (warn shed : Byte)
  | operator (index : Byte) (carrier : BitVec 16) (cls subscribed : Byte)
  | channel (position present band : Byte) (channel : BitVec 16) (gate : Byte)
  | destinations (selector count : Byte) (digits : List Byte)
  | site (code : BitVec 16) (kmPost : BitVec 24)
  | testCall (parameter : Byte)
  | startSweep (parameter : Byte)
  | clearTable (parameter : Byte)
  | restoreRadio (parameter : Byte)
  | reset (parameter : Byte)
  | unknownCode (code parameter : Byte)
  /-- The bytes of a frame whose count byte is above 24. -/
  | malformedFrame (r : RcuId) (bytes : List Byte)
  | discardedFrame (r : RcuId) (bytes : List Byte)
  deriving DecidableEq, Repr

end Sys2Proof
end

