-- ==== Sys2Proof/Config.lean ====
section
/-! DEFINITION. The fixed capacities and times of the part, in microseconds, and the one value the manual
leaves open. -/

namespace Sys2Proof.Config

def slots : Nat := 24
def planLength : Nat := 6
def stackDepth : Nat := 4
def operatorIndexes : Nat := 16
def channelPositions : Nat := 64

def second : Nat := 1000000
def minute : Nat := 60000000

/-- The time that passes on one step with an empty queue (DESIGN CHOICE, log 2): it divides every time the
manual names. -/
def tick : Nat := 20

/-- R24: one trial of the converter. -/
def trial : Nat := 40
/-- R30: the frame clock. -/
def frame : Nat := 10000
/-- R57. -/
def ackLimit : Nat := 500000
/-- R61. -/
def cancelLimit : Nat := 2 * second
/-- R69. -/
def readyTime : Nat := 12 * second
/-- R76. -/
def recoveryTime : Nat := 60 * second
/-- R113. -/
def pauseTime : Nat := 20 * second
/-- R141. -/
def ringTime : Nat := 60 * second
/-- R174. -/
def samplePeriod : Nat := 2 * second
/-- R183. -/
def cabinetHold : Nat := 5000

/-- How many reactions one event may set off (DESIGN CHOICE, log 11). -/
def settleFuel : Nat := 128

/-- Whether a time left that is no whole number of seconds is shown rounded up in the ROSTER burst: the manual
does not say (a free value, log 22). -/
opaque secondsRoundUp : Nat → Bool

end Sys2Proof.Config
end

