-- ==== Sys2Proof/Machine/State.lean ====
section
/-! DEFINITION. The state of the part, as plain data, and its value at reset. Quantities the manual counts are
numbers, kept in range by the operations (R2). Values that wrap are bit vectors. -/

namespace Sys2Proof.Machine

/-! ## Cells (01_the_cell_table.md) -/

/-- A cell's key (R1). -/
structure Key where
  band : Nat
  channel : Nat
  deriving DecidableEq, Repr

/-- A key with the carrier it was used with: a stack key (R128), a camp key (R138), the cell of an attempt. -/
structure CarrierKey where
  key : Key
  carrier : Nat
  deriving DecidableEq, Repr

inductive AccessKind where
  | narrow
  | wide
  | broad
  deriving DecidableEq, Repr

/-- OPEN, NORMAL_BARRED, EMERGENCY_BARRED. -/
inductive Barring where
  | openAccess
  | normalBarred
  | emergencyBarred
  deriving DecidableEq, Repr

/-- An entry of the Cell Table (Table 1-2). -/
structure Entry where
  key : Key
  carrier : Nat
  kind : AccessKind
  level : Nat
  quality : Nat
  age : Nat
  failures : Nat
  barring : Barring
  fullRefused : Bool
  deriving DecidableEq, Repr

/-! ## The Level Converter and the Gate Counters (02_measuring_a_channel.md) -/

/-- Who asks for a conversion (Table 2-1). -/
inductive Source where
  | rcu (r : RcuId)
  | battery
  deriving DecidableEq, Repr

/-- The conversion in progress (2.1, R23, R24, R26). -/
structure Conversion where
  source : Source
  vin : Microvolts
  trials : Nat
  code : Nat
  trialTime : Nat
  withdrawn : Bool
  deriving DecidableEq, Repr

structure Converter where
  queue : List Source
  current : Option Conversion
  deferred : Option Source
  deriving DecidableEq, Repr

/-- The analog inputs (Table 2 of 00_scope.md). -/
structure AnalogLines where
  level0 : Microvolts
  level1 : Microvolts
  battery : Microvolts
  deriving DecidableEq, Repr

inductive GateMode where
  | idle
  | armed
  | opened
  | continuous
  deriving DecidableEq, Repr

/-- A Gate Counter (2.3). `windows` marks an ARMED counter that opens in continuous mode (R33, log 21). -/
structure GateCounter where
  mode : GateMode
  length : Nat
  ticksLeft : Nat
  count : Nat
  windows : Bool
  deriving DecidableEq, Repr

inductive MeasurePhase where
  | none
  | settling
  | sampling
  deriving DecidableEq, Repr

inductive Requester where
  | sweep
  | callManager
  deriving DecidableEq, Repr

/-- An RCU's measurement record (2.4). -/
structure Measurement where
  phase : MeasurePhase
  key : Option Key
  gate : Nat
  requester : Option Requester
  code : Option Nat
  count : Option Nat
  deriving DecidableEq, Repr

/-! ## Orders and calls: words used by several blocks -/

inductive Access where
  | full
  | limited
  deriving DecidableEq, Repr

/-- OPS and PUBLIC. -/
inductive Destination where
  | ops
  | publicNumber
  deriving DecidableEq, Repr

/-- The site note of R114. -/
structure SiteNote where
  siteCode : Nat
  kmPost : Nat
  side : RecId
  sequence : BitVec 16
  battery : Nat
  access : Access
  segments : Nat
  deriving DecidableEq, Repr

/-- The orders of Table 4-3, but for CANCEL. ATTACH ANY is always LIMITED (R108). -/
inductive Order where
  | wake
  | doze
  | measure (key : Key)
  | listen (key : Key)
  | attach (key : Key) (access : Access)
  | attachAny
  | dial (digits : List Nat)
  | sendNote (note : SiteNote)
  | answer
  | reject
  | release
  | camp (cell : CarrierKey)
  deriving DecidableEq, Repr

inductive Issuer where
  | holder
  | rcu
  deriving DecidableEq, Repr

inductive OrderPhase where
  | ackWait
  | outcomeWait
  | retired
  deriving DecidableEq, Repr

inductive CancelPhase where
  | ackWait
  | doneWait
  deriving DecidableEq, Repr

/-- A CANCEL in progress: its tag, its phase and the time left of its running limit (R61). -/
structure Cancel where
  tag : Nat
  phase : CancelPhase
  limit : Nat
  deriving DecidableEq, Repr

/-- A PENDING order slot (R56). `limit` is the acknowledgement limit in ACK_WAIT and the outcome limit in
OUTCOME_WAIT. -/
structure Pending where
  order : Order
  tag : Nat
  issuer : Issuer
  phase : OrderPhase
  limit : Timer
  cancel : Option Cancel
  deriving DecidableEq, Repr

/-- The link receiver of an RCU (R187). -/
inductive LinkReceiver where
  | empty
  | partly (bytes : List Byte)
  | discarding
  deriving DecidableEq, Repr

/-- The condition of an RCU (R68). -/
inductive Condition where
  | off
  | booting
  | doze
  | waking
  | awake
  | camped
  | inCall
  | faulted
  | disabled
  deriving DecidableEq, Repr

/-- A holder of an RCU, or a claimant for one (R81). -/
inductive Holder where
  | sideA
  | sideB
  | test
  | window
  | survey
  deriving DecidableEq, Repr

/-! ## Sweeps (03_survey.md) -/

inductive SweepKind where
  | full
  | refresh
  | call (served : RecId)
  deriving DecidableEq, Repr

inductive SweepState where
  | running
  | ending
  deriving DecidableEq, Repr

inductive ItemPhase where
  | none
  | measuring
  | listening
  deriving DecidableEq, Repr

structure SweepItem where
  key : Key
  gate : Nat
  deriving DecidableEq, Repr

/-- A sweep context (R40). `endedNow` says that an item of it has ended and no time has passed since: the instant at
which R53 has an abandonment find the next item not begun (log 28). -/
structure Sweep where
  kind : SweepKind
  state : SweepState
  phase : ItemPhase
  cursor : Option Nat
  item : Option SweepItem
  pair : Option (Nat × Nat)
  yields : Nat
  endedNow : Bool
  deriving DecidableEq, Repr

inductive SurveyState where
  | notConfigured
  | idle
  | waiting
  | sweeping
  | ending
  deriving DecidableEq, Repr

/-- The kind of the background sweep (R39). -/
inductive BackgroundKind where
  | full
  | refresh
  deriving DecidableEq, Repr

structure Survey where
  state : SurveyState
  kind : Option BackgroundKind
  timer : Timer
  passCount : Nat
  deriving DecidableEq, Repr

/-! ## Radio Channel Units (04_radio_channel_units.md) -/

/-- All that the part keeps one of for each RCU: Table 4-1, its assignment (R81) and its sweep context (R40).
The supply line follows the condition (R68, log 23). `wakeDue` marks a bring-up that waits in DOZE for the DOZE in
flight (R71): its WAKE goes out even if the assignment has ended meanwhile. `txQueue` holds the frames handed to the
module link and not yet gone out (log 10). -/
structure Radio where
  condition : Condition
  slot : Option Pending
  tagCounter : Nat
  answerTimer : Timer
  readyTimer : Timer
  dozeTimer : Timer
  recoveryTimer : Timer
  faultCount : Nat
  proving : Bool
  wakeDue : Bool
  gate : GateCounter
  measurement : Measurement
  receiver : LinkReceiver
  holder : Option Holder
  sweep : Option Sweep
  txQueue : List (List Byte)
  deriving DecidableEq, Repr

/-- A place in the claim queue (R81). -/
structure Waiting where
  claimant : Holder
  requeued : Bool
  deriving DecidableEq, Repr

/-! ## The Call Manager (06_placing_a_call.md, 07_keeping_ending_and_returning_calls.md) -/

inductive RecState where
  | idle
  | queued
  | seeking
  | attaching
  | dialling
  | ringing
  | announcing
  | connected
  | clearing
  | alertingIn
  deriving DecidableEq, Repr

inductive SeekStep where
  | start
  | sweeping
  | next
  | paused
  deriving DecidableEq, Repr

inductive Cause where
  | noCause
  | barred
  | congested
  | noCell
  | attachTimeout
  | subscription
  | dialRejected
  | noAnswer
  | linkLost
  | moduleFault
  | preempted
  | noteFailed
  deriving DecidableEq, Repr

structure PlanItem where
  slot : Nat
  score : Nat
  deriving DecidableEq, Repr

inductive Target where
  | slot (n : Nat)
  | anyCell
  | noTarget
  deriving DecidableEq, Repr

/-- The try in hand (Table 6-1). `opsFailed` is the mark of R110 and R111. -/
structure Attempt where
  target : Target
  cell : Option CarrierKey
  access : Access
  destination : Destination
  attached : Bool
  opsFailed : Bool
  deriving DecidableEq, Repr

/-- A call record (Tables 6-1 and 7-2). The RCU it holds is read from the assignments (log 23). `pagedCell` is
the camped key a call-back is to be carried on (log 14). -/
structure CallRec where
  state : RecState
  step : SeekStep
  plan : List PlanItem
  cursor : Nat
  blindTried : Bool
  attempt : Option Attempt
  rounds : Nat
  segments : Nat
  regain : Bool
  incoming : Bool
  radioHeld : Bool
  dialled : Bool
  answeredDest : Option Destination
  fullConnection : Bool
  elapsed : Nat
  lastCause : Cause
  sequence : BitVec 16
  fadeCount : Nat
  fading : Bool
  pauseTimer : Timer
  droppedKey : Option Key
  regainTimer : Timer
  ringTimer : Timer
  answerInHand : Bool
  ringTimedOut : Bool
  pagedCell : Option CarrierKey
  deriving DecidableEq, Repr

/-- CAMPING, CAMPED, or LENT with the record that took the RCU (Table 7-5). -/
inductive WindowState where
  | camping
  | camped
  | lent (borrower : Side)
  deriving DecidableEq, Repr

/-- The callback window (Table 7-5). -/
structure Window where
  side : Side
  sequence : BitVec 16
  campKey : CarrierKey
  state : WindowState
  expiry : Nat
  deriving DecidableEq, Repr

/-! ## The Power Monitor (10_battery_supervision_and_start_up.md) -/

inductive PowerLevel where
  | normal
  | warn
  | shed
  deriving DecidableEq, Repr

inductive ResetCause where
  | powerOn
  | brownOut
  | cabinet
  deriving DecidableEq, Repr

/-- Table 10-1. `supplyLow` is the hold cause and the level of the brown-out input, `cabinetHold` the hold cause
with its time left. `reasserted` marks that the brown-out input was asserted again at the instant of its deassertion,
and taken first: the deassertion still to come then ends nothing (R186, log 33). The pending-change count is 1 exactly
while a target is pending (log 23). -/
structure PowerMonitor where
  supplyLow : Bool
  reasserted : Bool
  cabinetHold : Timer
  battery : Nat
  level : PowerLevel
  pendingTarget : Option PowerLevel
  sampleTimer : Timer
  resetCause : ResetCause
  resetCount : Nat
  deriving DecidableEq, Repr

/-! ## The ports (08_panel_ports.md, 09_cabinet_port_and_site_settings.md) -/

inductive TestResult where
  | noResult
  | running
  | passed
  | noService
  | noAnswer
  | noteFailed
  | preempted
  | noRadio
  deriving DecidableEq, Repr

/-- The cabinet notice set (R170). -/
structure CabinetNotices where
  testDone : Bool
  radioChanged : Bool
  powerChanged : Bool
  resetOccurred : Bool
  callEvent : Bool
  deriving DecidableEq, Repr

/-- The panel notice set (R151). -/
structure PanelNotices where
  stateChanged : Bool
  indicationChanged : Bool
  commandResult : Bool
  powerChanged : Bool
  deriving DecidableEq, Repr

/-- What a side's panel is shown (R124). -/
inductive Indication where
  | idle
  | wait
  | searching
  | connecting
  | ringback
  | connected
  | reconnecting
  | noService
  | noRadio
  | incoming
  | fading
  deriving DecidableEq, Repr

inductive CommandResult where
  | noResult
  | accepted
  | refusedState
  | unknown
  | refusedPower
  | refusedBusy
  | badValue
  deriving DecidableEq, Repr

inductive TxState where
  | deselected
  | header
  | writing
  | reading
  | ignoring
  | waitDeselect
  deriving DecidableEq, Repr

/-- The transaction of a port (R146, R158): its select input, state, item in hand (an address), byte count,
latched burst, the data bytes written so far and the bytes driven out (log 8). -/
structure Transaction where
  select : Bool
  state : TxState
  item : Option Nat
  byteCount : Nat
  burst : Option (List Byte)
  written : List Byte
  dataOut : List Byte
  deriving DecidableEq, Repr

/-- A panel port (Table 8-1). The last command is kept as its code. -/
structure PanelPort where
  tx : Transaction
  notices : PanelNotices
  lastCommand : Option Byte
  lastResult : CommandResult
  commandCount : BitVec 8
  reportedIndication : Indication
  reportedLevel : PowerLevel
  deriving DecidableEq, Repr

/-- The Cabinet Port (Table 9-1), but for its notice set and test result record, which the inner blocks write
and `Part` holds, and the Site Settings. -/
structure CabinetPort where
  tx : Transaction
  reportedLevel : PowerLevel
  tableSelect : Nat
  lastCommand : Option Byte
  lastResult : CommandResult
  commandCount : BitVec 8
  lastItem : Option Nat
  writeResult : CommandResult
  clamped : Bool
  writeCount : BitVec 8
  deriving DecidableEq, Repr

/-- A record of the Operator Table (R162). -/
structure OperatorRec where
  carrier : Nat
  cls : Nat
  subscribed : Bool
  deriving DecidableEq, Repr

/-- An item of the Channel List (R163). -/
structure ChannelItem where
  key : Key
  gate : Nat
  deriving DecidableEq, Repr

/-- The Site Settings (9.2). Times are in the unit of their item: seconds, or minutes for the callback
window. -/
structure Settings where
  levelFloor : Nat
  agePeriod : Nat
  surveyPeriod : Nat
  bonusNarrow : Nat
  bonusWide : Nat
  bonusBroad : Nat
  regainWindow : Nat
  answerTimeout : Nat
  callbackWindow : Nat
  dozeDelay : Nat
  warnCode : Nat
  shedCode : Nat
  operators : List (Option OperatorRec)
  channels : List (Option ChannelItem)
  opsDigits : List Nat
  publicDigits : List Nat
  siteCode : Nat
  kmPost : Nat
  deriving DecidableEq, Repr

/-! ## The whole -/

/-- The inner blocks: everything but the Site Settings, the ports and the queue of commands. -/
structure Part where
  table : List (Option Entry)
  ageTimer : Timer
  radio0 : Radio
  radio1 : Radio
  converter : Converter
  lines : AnalogLines
  frameClock : Timer
  survey : Survey
  claims : List Waiting
  sideA : CallRec
  sideB : CallRec
  test : CallRec
  callSequence : BitVec 16
  secondTimer : Timer
  stack : List CarrierKey
  window : Option Window
  voiceA : Option RcuId
  voiceB : Option RcuId
  testResult : TestResult
  testSequence : BitVec 16
  power : PowerMonitor
  notices : CabinetNotices
  deriving DecidableEq, Repr

/-- The state of the block. `pending` holds the commands that wait, the first at the front. -/
structure State where
  part : Part
  settings : Settings
  panelA : PanelPort
  panelB : PanelPort
  cabinet : CabinetPort
  pending : List Instr
  deriving DecidableEq, Repr

/-- The spec names nothing that stops the part: a module fault is an effect on State (R76). No command raises a
fault, so the type has no value. -/
inductive Fault where
  deriving DecidableEq, Repr

/-- Why a command has no meaning. -/
inductive Refusal where
  /-- An arm of exec that is not modelled yet, by its mnemonic. Safe. No arm raises it: every row has its meaning. -/
  | notModelled (mnemonic : String)
  deriving DecidableEq, Repr

/-! ## Reset values -/

/-- R32: IDLE with S at 0. The manual gives an IDLE counter no G and no ticks left, and after a close or an
abandonment no S: their 0 is the model's choice (log 29). -/
def GateCounter.cleared : GateCounter :=
  { mode := .idle, length := 0, ticksLeft := 0, count := 0, windows := false }

/-- Phase NONE and the record cleared, after any reset (2.4). That an abandonment, the end of continuous mode and the
hand-over of a pair clear the key, G and the requester too is the model's choice (log 34). -/
def Measurement.cleared : Measurement :=
  { phase := .none, key := none, gate := 0, requester := none, code := none, count := none }

/-- R27: idle with an empty queue. -/
def Converter.cleared : Converter := { queue := [], current := none, deferred := none }

/-- R80: an RCU during the hold. -/
def Radio.held : Radio :=
  { condition := .off, slot := none, tagCounter := 1, answerTimer := none, readyTimer := none,
    dozeTimer := none, recoveryTimer := none, faultCount := 0, proving := false,
    wakeDue := false, gate := GateCounter.cleared, measurement := Measurement.cleared, receiver := .empty,
    holder := none, sweep := none, txQueue := [] }

/-- Tables 6-1 and 7-2, "after any reset". -/
def CallRec.initial : CallRec :=
  { state := .idle, step := .start, plan := [], cursor := 0, blindTried := false, attempt := none,
    rounds := 0, segments := 0, regain := false, incoming := false, radioHeld := false,
    dialled := false, answeredDest := none, fullConnection := false, elapsed := 0,
    lastCause := .noCause, sequence := 0, fadeCount := 0, fading := false, pauseTimer := none,
    droppedKey := none, regainTimer := none, ringTimer := none, answerInHand := false,
    ringTimedOut := false, pagedCell := none }

def CabinetNotices.none : CabinetNotices :=
  { testDone := false, radioChanged := false, powerChanged := false, resetOccurred := false,
    callEvent := false }

def PanelNotices.none : PanelNotices :=
  { stateChanged := false, indicationChanged := false, commandResult := false, powerChanged := false }

/-- R184: the Power Monitor in a hold, with the reset record as written. -/
def PowerMonitor.held (supplyLow : Bool) (cabinetHold : Timer) (cause : ResetCause) (count : Nat) :
    PowerMonitor :=
  { supplyLow := supplyLow, reasserted := false, cabinetHold := cabinetHold, battery := 0, level := .normal,
    pendingTarget := none, sampleTimer := none, resetCause := cause, resetCount := count }

/-- R184: the inner blocks in a hold. The analog inputs are inputs and stay as they are. The background state
NOT_CONFIGURED beside a Channel List that a cabinet reset kept is the model's choice (log 32). -/
def Part.held (lines : AnalogLines) (power : PowerMonitor) : Part :=
  { table := List.replicate Config.slots none, ageTimer := none, radio0 := Radio.held,
    radio1 := Radio.held, converter := Converter.cleared, lines := lines, frameClock := none,
    survey := { state := .notConfigured, kind := none, timer := none, passCount := 0 }, claims := [],
    sideA := CallRec.initial, sideB := CallRec.initial, test := CallRec.initial, callSequence := 0,
    secondTimer := none, stack := [], window := none, voiceA := none, voiceB := none,
    testResult := .noResult, testSequence := 0, power := power, notices := CabinetNotices.none }

/-- R156: a port's transaction in a hold. The select input stays as it is. -/
def Transaction.held (select : Bool) : Transaction :=
  { select := select, state := .deselected, item := none, byteCount := 0, burst := none,
    written := [], dataOut := [] }

/-- R156: a panel port in a hold. -/
def PanelPort.held (select : Bool) : PanelPort :=
  { tx := Transaction.held select, notices := PanelNotices.none, lastCommand := none,
    lastResult := .noResult, commandCount := 0, reportedIndication := .idle, reportedLevel := .normal }

/-- Table 9-1: the Cabinet Port in a hold. -/
def CabinetPort.held (select : Bool) : CabinetPort :=
  { tx := Transaction.held select, reportedLevel := .normal, tableSelect := 0, lastCommand := none,
    lastResult := .noResult, commandCount := 0, lastItem := none, writeResult := .noResult,
    clamped := false, writeCount := 0 }

/-- R166: the defaults of Table 9-3, R161 and R162 to R165. -/
def Settings.default : Settings :=
  { levelFloor := 8, agePeriod := 120, surveyPeriod := 300, bonusNarrow := 0, bonusWide := 4,
    bonusBroad := 8, regainWindow := 60, answerTimeout := 90, callbackWindow := 10, dozeDelay := 30,
    warnCode := 46, shedCode := 44, operators := List.replicate Config.operatorIndexes none,
    channels := List.replicate Config.channelPositions none, opsDigits := [],
    publicDigits := [1, 1, 2], siteCode := 0, kmPost := 0 }

/-- The machine at the beginning of a power-on reset: HELD with the cause supply low (R181, R182, R184, log 5).
The inputs are at the values log 6 names. -/
def State.reset : State :=
  { part := Part.held { level0 := 0, level1 := 0, battery := 0 } (PowerMonitor.held true none .powerOn 0),
    settings := Settings.default, panelA := PanelPort.held false, panelB := PanelPort.held false,
    cabinet := CabinetPort.held false, pending := [] }

end Sys2Proof.Machine
end

