-- ==== Sys2Proof/Machine/Ops.lean ====
section
/-! DEFINITION. Named access to the parts of State: every read and write of a register of an RCU, a call record
or a port goes through these. -/

namespace Sys2Proof

/-! ## Names -/

def RecId.holder : RecId → Machine.Holder
  | .sideA => .sideA
  | .sideB => .sideB
  | .test => .test

def Side.record : Side → RecId
  | .a => .sideA
  | .b => .sideB

def Side.other : Side → Side
  | .a => .b
  | .b => .a

def Side.port : Side → PortId
  | .a => .panelA
  | .b => .panelB

/-- The side code of Table 11-1. -/
def Side.code : Side → Nat
  | .a => 0
  | .b => 1

/-- The side of a panel record. The TEST record has none. -/
def RecId.side : RecId → Option Side
  | .sideA => some .a
  | .sideB => some .b
  | .test => none

/-- The side code of Table 11-1. -/
def RecId.sideCode : RecId → Nat
  | .sideA => 0
  | .sideB => 1
  | .test => 2

def RcuId.other : RcuId → RcuId
  | .rcu0 => .rcu1
  | .rcu1 => .rcu0

def PortId.side : PortId → Option Side
  | .panelA => some .a
  | .panelB => some .b
  | .cabinet => none

end Sys2Proof

namespace Sys2Proof.Machine

def Holder.record : Holder → Option RecId
  | .sideA => some .sideA
  | .sideB => some .sideB
  | .test => some .test
  | .window => none
  | .survey => none

def Holder.isPanel : Holder → Bool
  | .sideA => true
  | .sideB => true
  | .test => false
  | .window => false
  | .survey => false

/-! ## RCUs -/

def Part.radio (p : Part) : RcuId → Radio
  | .rcu0 => p.radio0
  | .rcu1 => p.radio1

def Part.setRadio (r : RcuId) (x : Radio) (p : Part) : Part :=
  match r with
  | .rcu0 => { p with radio0 := x }
  | .rcu1 => { p with radio1 := x }

def Part.modRadio (r : RcuId) (f : Radio → Radio) (p : Part) : Part :=
  p.setRadio r (f (p.radio r))

/-- The RCU assigned to a holder (R81): it holds at most one. -/
def Part.rcuOf (p : Part) (h : Holder) : Option RcuId :=
  if p.radio0.holder = some h then some .rcu0
  else if p.radio1.holder = some h then some .rcu1
  else none

/-! ## Call records -/

def Part.call (p : Part) : RecId → CallRec
  | .sideA => p.sideA
  | .sideB => p.sideB
  | .test => p.test

def Part.setCall (k : RecId) (c : CallRec) (p : Part) : Part :=
  match k with
  | .sideA => { p with sideA := c }
  | .sideB => { p with sideB := c }
  | .test => { p with test := c }

def Part.modCall (k : RecId) (f : CallRec → CallRec) (p : Part) : Part :=
  p.setCall k (f (p.call k))

/-- The RCU a record holds (Table 6-1). -/
def Part.callRcu (p : Part) (k : RecId) : Option RcuId := p.rcuOf k.holder

/-- The Voice Switch path of a side (R117). -/
def Part.voice (p : Part) : Side → Option RcuId
  | .a => p.voiceA
  | .b => p.voiceB

def Part.setVoice (d : Side) (v : Option RcuId) (p : Part) : Part :=
  match d with
  | .a => { p with voiceA := v }
  | .b => { p with voiceB := v }

/-! ## The analog inputs -/

def AnalogLines.read (l : AnalogLines) : Source → Microvolts
  | .rcu .rcu0 => l.level0
  | .rcu .rcu1 => l.level1
  | .battery => l.battery

def AnalogLines.set (l : AnalogLines) (src : Source) (v : Microvolts) : AnalogLines :=
  match src with
  | .rcu .rcu0 => { l with level0 := v }
  | .rcu .rcu1 => { l with level1 := v }
  | .battery => { l with battery := v }

def Part.setLine (src : Source) (v : Microvolts) (p : Part) : Part :=
  { p with lines := p.lines.set src v }

/-! ## Notices of the cabinet (R170) -/

def Part.raiseRadioChanged (p : Part) : Part :=
  { p with notices := { p.notices with radioChanged := true } }

def Part.raiseTestDone (p : Part) : Part :=
  { p with notices := { p.notices with testDone := true } }

/-! ## Ports and State -/

def State.panel (s : State) : Side → PanelPort
  | .a => s.panelA
  | .b => s.panelB

def State.setPanel (d : Side) (x : PanelPort) (s : State) : State :=
  match d with
  | .a => { s with panelA := x }
  | .b => { s with panelB := x }

def State.modPanel (d : Side) (f : PanelPort → PanelPort) (s : State) : State :=
  s.setPanel d (f (s.panel d))

def State.tx (s : State) : PortId → Transaction
  | .panelA => s.panelA.tx
  | .panelB => s.panelB.tx
  | .cabinet => s.cabinet.tx

def State.setTx (q : PortId) (t : Transaction) (s : State) : State :=
  match q with
  | .panelA => { s with panelA := { s.panelA with tx := t } }
  | .panelB => { s with panelB := { s.panelB with tx := t } }
  | .cabinet => { s with cabinet := { s.cabinet with tx := t } }

def State.modTx (q : PortId) (f : Transaction → Transaction) (s : State) : State :=
  s.setTx q (f (s.tx q))

def State.modPart (f : Part → Part) (s : State) : State := { s with part := f s.part }

/-- HELD: some hold cause is present (R183). -/
def Part.isHeld (p : Part) : Bool := p.power.supplyLow || p.power.cabinetHold.isSome

/-- HELD, as a state of the whole part. -/
def State.isHeld (s : State) : Bool := s.part.isHeld

end Sys2Proof.Machine
end

