-- ==== Sys2Proof/Machine/Operands.lean ====
section
/-! DEFINITION. Link Formats (11_link_formats.md): the codes of Table 11-1, the frames of a module link and
their tests (R55, R187, R188). -/

namespace Sys2Proof.Machine

/-! ## Table 11-1 -/

def RecState.code : RecState → Nat
  | .idle => 0
  | .queued => 1
  | .seeking => 2
  | .attaching => 3
  | .dialling => 4
  | .ringing => 5
  | .announcing => 6
  | .connected => 7
  | .clearing => 8
  | .alertingIn => 9

def Indication.code : Indication → Nat
  | .idle => 0
  | .wait => 1
  | .searching => 2
  | .connecting => 3
  | .ringback => 4
  | .connected => 5
  | .reconnecting => 6
  | .noService => 7
  | .noRadio => 8
  | .incoming => 9
  | .fading => 10

def Cause.code : Cause → Nat
  | .noCause => 0
  | .barred => 1
  | .congested => 2
  | .noCell => 3
  | .attachTimeout => 4
  | .subscription => 5
  | .dialRejected => 6
  | .noAnswer => 7
  | .linkLost => 8
  | .moduleFault => 9
  | .preempted => 10
  | .noteFailed => 11

def CommandResult.code : CommandResult → Nat
  | .noResult => 0
  | .accepted => 1
  | .refusedState => 2
  | .unknown => 3
  | .refusedPower => 4
  | .refusedBusy => 5
  | .badValue => 6

def PowerLevel.code : PowerLevel → Nat
  | .normal => 0
  | .warn => 1
  | .shed => 2

def AccessKind.code : AccessKind → Nat
  | .narrow => 0
  | .wide => 1
  | .broad => 2

def Barring.code : Barring → Nat
  | .openAccess => 0
  | .normalBarred => 1
  | .emergencyBarred => 2

def Access.code : Access → Nat
  | .full => 0
  | .limited => 1

def Destination.code : Destination → Nat
  | .ops => 0
  | .publicNumber => 1

def Condition.code : Condition → Nat
  | .off => 0
  | .booting => 1
  | .doze => 2
  | .waking => 3
  | .awake => 4
  | .camped => 5
  | .inCall => 6
  | .faulted => 7
  | .disabled => 8

def Holder.code : Holder → Nat
  | .sideA => 1
  | .sideB => 2
  | .test => 3
  | .window => 4
  | .survey => 5

def holderCode (h : Option Holder) : Nat := (h.map Holder.code).getD 0

def OrderPhase.code : OrderPhase → Nat
  | .ackWait => 1
  | .outcomeWait => 2
  | .retired => 3

def CancelPhase.code : CancelPhase → Nat
  | .ackWait => 1
  | .doneWait => 2

def SurveyState.code : SurveyState → Nat
  | .notConfigured => 0
  | .idle => 1
  | .waiting => 2
  | .sweeping => 3
  | .ending => 4

def BackgroundKind.code : BackgroundKind → Nat
  | .full => 1
  | .refresh => 2

def WindowState.code : WindowState → Nat
  | .camping => 1
  | .camped => 2
  | .lent _ => 3

def TestResult.code : TestResult → Nat
  | .noResult => 0
  | .running => 1
  | .passed => 2
  | .noService => 3
  | .noAnswer => 4
  | .noteFailed => 5
  | .preempted => 6
  | .noRadio => 7

def ResetCause.code : ResetCause → Nat
  | .powerOn => 0
  | .brownOut => 1
  | .cabinet => 2

/-! ## Frames to a module (R187, Tables 11-2 and 11-3) -/

/-- The check byte: the exclusive-or of the bytes before it. -/
def checkByte (bytes : List Byte) : Byte := bytes.foldl (· ^^^ ·) 0

/-- Kind, tag, parameter count, parameters, check byte. -/
def linkFrame (kind tag : Byte) (params : List Byte) : List Byte :=
  let body := kind :: tag :: toByte params.length :: params
  body ++ [checkByte body]

/-- Table 11-2, order kind codes. -/
def Order.code : Order → Nat
  | .wake => 1
  | .doze => 2
  | .measure _ => 3
  | .listen _ => 4
  | .attach _ _ => 5
  | .attachAny => 5
  | .dial _ => 6
  | .sendNote _ => 7
  | .answer => 8
  | .reject => 9
  | .release => 10
  | .camp _ => 11

/-- The kind code of CANCEL. -/
def cancelCode : Nat := 12

def Key.bytes (k : Key) : List Byte := toByte k.band :: bytes2 k.channel

/-- Table 11-4. -/
def SiteNote.bytes (n : SiteNote) : List Byte :=
  bytes2 n.siteCode ++ bytes3 n.kmPost ++ [toByte n.side.sideCode] ++ bytes2 n.sequence.toNat ++
    [toByte n.battery, toByte n.access.code, toByte n.segments]

/-- Table 11-3. In ATTACH's mode byte, bit 0 is ANY and bit 1 is LIMITED. -/
def Order.params : Order → List Byte
  | .wake => []
  | .doze => []
  | .measure k => k.bytes
  | .listen k => k.bytes
  | .attach k a => toByte (bitAt (a == .limited) 1) :: k.bytes
  | .attachAny => [3, 0, 0, 0]
  | .dial digits => toByte digits.length :: digits.map toByte
  | .sendNote n => n.bytes
  | .answer => []
  | .reject => []
  | .release => []
  | .camp c => c.key.bytes ++ bytes2 c.carrier

def Order.frame (o : Order) (tag : Nat) : List Byte := linkFrame (toByte o.code) (toByte tag) o.params

/-- A CANCEL with its own tag, carrying the retired tag (R61). -/
def cancelFrame (retired tag : Nat) : List Byte := linkFrame (toByte cancelCode) (toByte tag) [toByte retired]

/-! ## Frames from a module -/

/-- The outcomes of Table 11-2. -/
inductive ModuleOutcome where
  | settled
  | heard (carrier : Nat) (kind : AccessKind) (barring : Barring)
  | notHeard
  | accepted (report : Option (CarrierKey × AccessKind × Barring))
  | rejectedBarred
  | rejectedCongested
  | rejectedSubscription
  | noCell
  | alerting
  | answered
  | dialRejected
  | delivered
  | notDelivered
  | done
  | camped
  | cancelDone
  deriving DecidableEq, Repr

inductive Notice where
  | ready
  | linkLost
  | farRelease
  | answered
  | paged
  | cellLost
  deriving DecidableEq, Repr

inductive ModuleFrame where
  | acknowledgement (tag : Nat)
  | outcome (o : ModuleOutcome) (tag : Nat)
  | notice (n : Notice)
  deriving DecidableEq, Repr

def accessKindOf : Nat → Option AccessKind
  | 0 => some .narrow
  | 1 => some .wide
  | 2 => some .broad
  | _ => none

def barringOf : Nat → Option Barring
  | 0 => some .openAccess
  | 1 => some .normalBarred
  | 2 => some .emergencyBarred
  | _ => none

/-- R188: a carrier field holds 1..999. -/
def carrierOf (n : Nat) : Option Nat := if n = 0 ∨ 999 < n then none else some n

/-- R188: band 0..5 and channel 0..4095. -/
def keyOf (band channel : Nat) : Option Key :=
  if 5 < band ∨ 4095 < channel then none else some { band := band, channel := channel }

/-- The parameters of HEARD: carrier, access kind, barring. -/
def heardOf : List Byte → Option ModuleOutcome
  | [c1, c0, k, b] =>
    match carrierOf (num2 c1 c0), accessKindOf k.toNat, barringOf b.toNat with
    | some c, some kind, some barring => some (.heard c kind barring)
    | _, _, _ => none
  | _ => none

/-- The parameters of ACCEPTED: none, or band, channel, carrier, access kind, barring. -/
def acceptedOf : List Byte → Option ModuleOutcome
  | [] => some (.accepted none)
  | [band, ch1, ch0, c1, c0, k, b] =>
    match keyOf band.toNat (num2 ch1 ch0), carrierOf (num2 c1 c0), accessKindOf k.toNat,
      barringOf b.toNat with
    | some key, some c, some kind, some barring =>
      some (.accepted (some ({ key := key, carrier := c }, kind, barring)))
    | _, _, _, _ => none
  | _ => none

/-- An outcome whose kind carries no parameters. -/
def plainOf (o : ModuleOutcome) : List Byte → Option ModuleOutcome
  | [] => some o
  | _ :: _ => none

/-- Table 11-2, outcome kind codes, with the form checks of R188. -/
def outcomeOf (kind : Nat) (params : List Byte) : Option ModuleOutcome :=
  match kind with
  | 65 => plainOf .settled params
  | 66 => heardOf params
  | 67 => plainOf .notHeard params
  | 68 => acceptedOf params
  | 69 => plainOf .rejectedBarred params
  | 70 => plainOf .rejectedCongested params
  | 71 => plainOf .rejectedSubscription params
  | 72 => plainOf .noCell params
  | 73 => plainOf .alerting params
  | 74 => plainOf .answered params
  | 75 => plainOf .dialRejected params
  | 76 => plainOf .delivered params
  | 77 => plainOf .notDelivered params
  | 78 => plainOf .done params
  | 79 => plainOf .camped params
  | 80 => plainOf .cancelDone params
  | _ => none

/-- Table 11-2, notice kind codes. -/
def noticeOf : Nat → Option Notice
  | 97 => some .ready
  | 98 => some .linkLost
  | 99 => some .farRelease
  | 100 => some .answered
  | 101 => some .paged
  | 102 => some .cellLost
  | _ => none

/-- The tests of R55 but the last, and the form checks of R188, on the bytes of one frame: the kind, the tag and
the parameters are read once here. An acknowledgement or outcome carries a tag in 1..15, a notice tag 0. -/
def frameOf (kind tag : Nat) (params : List Byte) : Option ModuleFrame :=
  if kind = 32 then
    if params = [] ∧ 1 ≤ tag ∧ tag ≤ 15 then some (.acknowledgement tag) else none
  else if kind < 97 then
    if 1 ≤ tag ∧ tag ≤ 15 then (outcomeOf kind params).map (.outcome · tag) else none
  else
    if tag = 0 ∧ params = [] then (noticeOf kind).map .notice else none

/-- The bytes of a complete frame (R187): the check byte must match. -/
def parseFrame (bytes : List Byte) : Option ModuleFrame :=
  match bytes with
  | kind :: tag :: count :: rest =>
    let params := rest.dropLast
    if rest.getLast? = some (checkByte (kind :: tag :: count :: params)) ∧ params.length = count.toNat then
      frameOf kind.toNat tag.toNat params
    else none
  | _ => none

/-- One byte arrives at the link receiver (R187): the receiver after it, and the bytes of the frame it
completes. -/
def LinkReceiver.byte (b : Byte) : LinkReceiver → LinkReceiver × Option (List Byte)
  | .discarding => (.discarding, none)
  | .empty => (.partly [b], none)
  | .partly bytes =>
    let all := bytes ++ [b]
    match all[2]? with
    | none => (.partly all, none)
    | some count =>
      if 24 < count.toNat then (.discarding, none)
      else if all.length = count.toNat + 4 then (.empty, some all)
      else (.partly all, none)

end Sys2Proof.Machine
end

