-- ==== Sys2Proof/Machine/Flags.lean ====
section
/-! DEFINITION. What the manual derives from the state and never stores: eligibility, score and pins of an entry,
the supply line, the ready, free and reserve conditions of an RCU, the no-radio condition, the indication, the
attention lines. -/

namespace Sys2Proof.Machine

/-! ## Cell Table -/

/-- R4. -/
def Entry.eligible (g : Settings) (e : Entry) : Bool :=
  decide (g.levelFloor ≤ e.level) && e.barring != .emergencyBarred && decide (e.failures < 7)

/-- The Operator Table record of a carrier (R6, R103). -/
def Settings.operatorFor (g : Settings) (carrier : Nat) : Option OperatorRec :=
  (g.operators.find? fun o => o.any (·.carrier == carrier)).join

/-- R103, R129: the carrier has a record marked subscribed. -/
def Settings.subscribed (g : Settings) (carrier : Nat) : Bool :=
  (g.operatorFor carrier).any (·.subscribed)

/-- The table of R6. Class 3, and a carrier with no record, have bonus 0. -/
def classBonus : Nat → Nat
  | 0 => 24
  | 1 => 16
  | 2 => 8
  | _ => 0

def Settings.carrierBonus (g : Settings) (carrier : Nat) : Nat :=
  match g.operatorFor carrier with
  | some o => classBonus o.cls
  | none => 0

def Settings.kindBonus (g : Settings) : AccessKind → Nat
  | .narrow => g.bonusNarrow
  | .wide => g.bonusWide
  | .broad => g.bonusBroad

/-- R6. The subtraction stops at 0, which is the rule's replacement of a result below 0. -/
def Entry.score (g : Settings) (e : Entry) : Nat :=
  (2 * e.level + e.quality / 4 + g.carrierBonus e.carrier + g.kindBonus e.kind) -
    (12 * e.failures + 2 * e.age)

/-- The score where it is shown or stored: 0 for an ineligible entry (R6, R22, R130). -/
def Entry.shownScore (g : Settings) (e : Entry) : Nat := if e.eligible g then e.score g else 0

/-- The entry in a slot. -/
def Part.entryAt (p : Part) (slot : Nat) : Option Entry := (p.table[slot]?).join

/-- The slot of the entry with a key (R1). -/
def Part.slotOf (p : Part) (key : Key) : Option Nat :=
  p.table.findIdx? fun o => o.any (·.key == key)

def Part.entryOf (p : Part) (key : Key) : Option Entry := (p.slotOf key).bind p.entryAt

/-- The present entries with their slots, in slot order. -/
def Part.entries (p : Part) : List (Nat × Entry) :=
  p.table.zipIdx.filterMap fun x => x.1.map fun e => (x.2, e)

/-- R5. -/
def Part.eligibleCount (g : Settings) (p : Part) : Nat :=
  p.table.countP fun o => o.any (·.eligible g)

/-- The number of present entries (R169). -/
def Part.entryCount (p : Part) : Nat := p.table.countP (·.isSome)

/-- A record's plan holds the slot. -/
def CallRec.planHolds (c : CallRec) (slot : Nat) : Bool := c.plan.any (·.slot == slot)

/-- R8: the carrier stored with a stacked key takes no part in the match. -/
def Part.pinned (p : Part) (slot : Nat) (key : Key) : Bool :=
  p.sideA.planHolds slot || p.sideB.planHolds slot || p.test.planHolds slot ||
    p.stack.any (·.key == key)

/-! ## RCUs -/

/-- R68: the supply line. -/
def Condition.powered : Condition → Bool
  | .off => false
  | .booting => true
  | .doze => true
  | .waking => true
  | .awake => true
  | .camped => true
  | .inCall => true
  | .faulted => false
  | .disabled => false

def Radio.supplyOn (x : Radio) : Bool := x.condition.powered

/-- FAULTED or DISABLED. -/
def Radio.broken (x : Radio) : Bool := x.condition == .faulted || x.condition == .disabled

/-- AWAKE with an EMPTY slot (R99, R139). -/
def Radio.isReady (x : Radio) : Bool := x.condition == .awake && x.slot.isNone

def Part.ready (p : Part) (r : RcuId) : Bool := (p.radio r).isReady

/-- R68: free. -/
def Radio.isFree (x : Radio) : Bool :=
  x.holder.isNone && x.slot.isNone &&
    (x.condition == .booting || x.condition == .doze || x.condition == .awake || x.condition == .off)

/-- R74: the lower-numbered RCU that is neither FAULTED nor DISABLED. -/
def Part.reserve (p : Part) : Option RcuId :=
  if !p.radio0.broken then some .rcu0
  else if !p.radio1.broken then some .rcu1
  else none

/-- R92. -/
def Part.noRadio (p : Part) : Bool := p.radio0.broken && p.radio1.broken

/-! ## The Arbiter -/

/-- R84. -/
def Radio.grantable (x : Radio) : Bool := x.holder.isNone && !x.broken

/-- R84: how near to ready a grantable RCU is, the nearest first. -/
def Condition.distance : Condition → Nat
  | .awake => 0
  | .waking => 1
  | .inCall => 2
  | .doze => 3
  | .booting => 4
  | .off => 5
  | .camped => 6
  | .faulted => 7
  | .disabled => 8

/-- R84: the grantable RCU nearer to ready, RCU 0 of two alike. -/
def Part.nearest (p : Part) : Option RcuId :=
  match p.radio0.grantable, p.radio1.grantable with
  | true, true =>
    if p.radio1.condition.distance < p.radio0.condition.distance then some .rcu1 else some .rcu0
  | true, false => some .rcu0
  | false, true => some .rcu1
  | false, false => none

/-- R87: in SHED no grant is made while the other RCU is assigned. -/
def Part.grantAllowed (p : Part) (r : RcuId) : Bool :=
  p.power.level != .shed || (p.radio r.other).holder.isNone

/-- R84, R87: the RCU a claimant would be granted now. -/
def Part.grantNow (p : Part) : Option RcuId := p.nearest.filter fun r => p.grantAllowed r

def Part.waits (p : Part) (h : Holder) : Bool := p.claims.any (·.claimant == h)

/-- R88: the RCU held by the lowest holder below the panel class. -/
def Part.victimRcu (p : Part) : Option RcuId :=
  (p.rcuOf .survey).or ((p.rcuOf .test).or (p.rcuOf .window))

/-- A place in the claim queue, by class and by how it was entered (R82). -/
def Waiting.rank (w : Waiting) : Nat :=
  match w.claimant, w.requeued with
  | .sideA, true => 0
  | .sideB, true => 0
  | .sideA, false => 1
  | .sideB, false => 1
  | .window, _ => 2
  | .test, _ => 3
  | .survey, _ => 4

/-- A record's place in the claim queue, 1 for the head and 0 for none (R168). -/
def Part.queuePlace (p : Part) (h : Holder) : Nat :=
  match p.claims.findIdx? (·.claimant == h) with
  | some i => i + 1
  | none => 0

/-! ## What panels and cabinet are shown -/

/-- R124: the first line that applies. -/
def CallRec.indication (c : CallRec) (noRadio : Bool) : Indication :=
  match c.state with
  | .idle => .idle
  | .clearing => .idle
  | .connected => if c.fading then .fading else .connected
  | .alertingIn => .incoming
  | .queued =>
    if noRadio then .noRadio
    else if c.regain then .reconnecting
    else if c.radioHeld then .searching
    else .wait
  | .seeking =>
    if c.regain then .reconnecting else if 3 ≤ c.rounds then .noService else .searching
  | .attaching => if c.regain then .reconnecting else .connecting
  | .dialling => if c.regain then .reconnecting else .connecting
  | .announcing => if c.regain then .reconnecting else .connecting
  | .ringing => if c.regain then .reconnecting else .ringback

def Part.indication (p : Part) (d : Side) : Indication := (p.call d.record).indication p.noRadio

/-- R155: LOW_POWER. -/
def PowerLevel.low : PowerLevel → Bool
  | .normal => false
  | .warn => true
  | .shed => true

def PanelNotices.any (n : PanelNotices) : Bool :=
  n.stateChanged || n.indicationChanged || n.commandResult || n.powerChanged

def CabinetNotices.any (n : CabinetNotices) : Bool :=
  n.testDone || n.radioChanged || n.powerChanged || n.resetOccurred || n.callEvent

/-- R153: a port's attention line. -/
def State.attention (s : State) : PortId → Bool
  | .panelA => !s.isHeld && s.panelA.notices.any
  | .panelB => !s.isHeld && s.panelB.notices.any
  | .cabinet => !s.isHeld && s.part.notices.any

/-- The pending-change count of Table 10-1. -/
def PowerMonitor.pendingCount (m : PowerMonitor) : Nat := if m.pendingTarget.isSome then 1 else 0

/-- R44: the Channel List holds an item. -/
def Settings.listHasItem (g : Settings) : Bool := g.channels.any (·.isSome)

end Sys2Proof.Machine
end

