-- ==== Sys2Proof/Machine/Table.lean ====
section
/-! DEFINITION. Operations on the Cell Table (01_the_cell_table.md). -/

namespace Sys2Proof.Machine

/-! ## Pins and removal -/

/-- R20: every unpinned entry at A = 15 is removed. At most the entries whose last pin has just ended are such
(an age tick leaves none, R19). -/
def Part.prune (p : Part) : Part :=
  { p with table := p.table.mapIdx fun i o =>
      o.filter fun e => !(e.age == 15 && !p.pinned i e.key) }

/-- R19, step 1. -/
def Entry.older (e : Entry) : Entry := { e with age := satInc 15 e.age }

/-- R19: both steps. -/
def Part.ageEntries (p : Part) : Part :=
  Part.prune { p with table := p.table.map (Option.map Entry.older) }

/-- R21: every unpinned entry is removed. -/
def Part.clearTable (p : Part) : Part :=
  { p with table := p.table.mapIdx fun i o => o.filter fun e => p.pinned i e.key }

/-! ## Ranking and victim -/

/-- R7: `a` ranks ahead of `b`. Each is a slot and its entry. -/
def ranksAhead (g : Settings) (a b : Nat × Entry) : Bool :=
  let sa := a.2.score g
  let sb := b.2.score g
  decide (sb < sa) ||
    (sa == sb && (decide (b.2.level < a.2.level) || (a.2.level == b.2.level && decide (a.1 < b.1))))

/-- An entry takes its place in a ranked list. -/
def rankInsert (g : Settings) (x : Nat × Entry) : List (Nat × Entry) → List (Nat × Entry)
  | [] => [x]
  | y :: rest => if ranksAhead g x y then x :: y :: rest else y :: rankInsert g x rest

/-- R7: the eligible entries in ranking order. -/
def Part.ranking (g : Settings) (p : Part) : List (Nat × Entry) :=
  (p.entries.filter fun x => x.2.eligible g).foldr (rankInsert g) []

/-- R10: `a` ranks lower than `b` as a victim. -/
def ranksLower (g : Settings) (a b : Nat × Entry) : Bool :=
  match a.2.eligible g, b.2.eligible g with
  | false, true => true
  | true, false => false
  | false, false =>
    decide (b.2.age < a.2.age) || (a.2.age == b.2.age && decide (b.1 < a.1))
  | true, true => ranksAhead g b a

/-- The lowest of a list by R10. -/
def lowestOf (g : Settings) : List (Nat × Entry) → Option (Nat × Entry)
  | [] => none
  | x :: rest =>
    match lowestOf g rest with
    | none => some x
    | some y => if ranksLower g x y then some x else some y

/-- R10: the slot of the victim. -/
def Part.victimSlot (g : Settings) (p : Part) : Option Nat :=
  (lowestOf g (p.entries.filter fun x => !p.pinned x.1 x.2.key)).map (·.1)

/-! ## Writes -/

/-- A change of the entry in a slot, if there is one. -/
def Part.modEntry (slot : Nat) (f : Entry → Entry) (p : Part) : Part :=
  { p with table := p.table.modify slot (Option.map f) }

/-- The slot a new entry takes: the lowest empty one (R9), or the victim's (R10). -/
def Part.slotForNew (g : Settings) (p : Part) : Option Nat :=
  (p.table.findIdx? (·.isNone)).or (p.victimSlot g)

/-- R9, R10: a new entry for an absent key. -/
def Part.insertNew (g : Settings) (e : Entry) (p : Part) : Part :=
  match p.slotForNew g with
  | some i => { p with table := p.table.set i (some e) }
  | none => p

/-- R12: a sweep result on the present entry. -/
def Entry.measured (g : Settings) (refresh : Bool) (l q : Nat) (e : Entry) : Entry :=
  { e with level := l, quality := q, age := 0,
           failures := if refresh && decide (g.levelFloor ≤ l) then e.failures - 1 else e.failures }

/-- R14: a monitoring window on the carrying entry. -/
def Entry.monitored (l q : Nat) (e : Entry) : Entry := { e with level := l, quality := q, age := 0 }

/-- R15: what a cell reports of itself. A change of carrier clears full-refused. -/
def Entry.reported (carrier : Nat) (kind : AccessKind) (barring : Barring) (e : Entry) : Entry :=
  { e with carrier := carrier, kind := kind, barring := barring,
           fullRefused := if carrier = e.carrier then e.fullRefused else false }

/-- R9, R13: the insertion a sweep item requests. -/
def Part.insertHeard (g : Settings) (key : Key) (l q : Nat) (carrier : Nat) (kind : AccessKind)
    (barring : Barring) (p : Part) : Part :=
  match p.slotOf key with
  | some i => p.modEntry i fun e => (e.measured g false l q).reported carrier kind barring
  | none =>
    p.insertNew g { key := key, carrier := carrier, kind := kind, level := l, quality := q, age := 0,
                    failures := 0, barring := barring, fullRefused := false }

/-- R17: the report of a blind acceptance. -/
def Part.insertBlind (g : Settings) (cell : CarrierKey) (kind : AccessKind) (barring : Barring)
    (p : Part) : Part :=
  match p.slotOf cell.key with
  | some i => p.modEntry i fun e => { e.reported cell.carrier kind barring with failures := 0 }
  | none =>
    p.insertNew g { key := cell.key, carrier := cell.carrier, kind := kind, level := g.levelFloor,
                    quality := 0, age := 0, failures := 0, barring := barring, fullRefused := false }

/-! ## Outcomes of attempts (R16, Table 1-7) -/

def Entry.accepted (e : Entry) : Entry := { e with failures := 0 }

def Entry.failed (e : Entry) : Entry := { e with failures := satInc 7 e.failures }

def Entry.notFound (e : Entry) : Entry := { e with failures := satInc 7 e.failures, level := 0 }

def Entry.barredAt (a : Access) (e : Entry) : Entry :=
  match a with
  | .limited => { e with barring := .emergencyBarred }
  | .full => { e with barring := .normalBarred, fullRefused := true }

def Entry.subscriptionRefused (e : Entry) : Entry := { e with fullRefused := true }

/-- An outcome is passed to the entry in the slot an attempt names (R16). A blind attempt names none. -/
def Part.modTarget (t : Target) (f : Entry → Entry) (p : Part) : Part :=
  match t with
  | .slot i => p.modEntry i f
  | .anyCell => p
  | .noTarget => p

end Sys2Proof.Machine
end

