-- ==== Sys2Proof/Machine/Converter.lean ====
section
/-! DEFINITION. The Level Converter (2.1 and 2.2) and the Gate Counters (2.3) of 02_measuring_a_channel.md. -/

namespace Sys2Proof.Machine

/-! ## The Level Converter -/

/-- R23: step n of the ladder, in microvolts. Step 0 is 0 V. -/
def ladderStep (n : Nat) : Microvolts := 40000 * n - 20000

/-- R24: one trial, of the next bit down from bit 5. -/
def Conversion.trial (c : Conversion) : Conversion :=
  let bit := 2 ^ (5 - c.trials)
  { c with trials := c.trials + 1,
           code := if ladderStep (c.code + bit) < c.vin then c.code + bit else c.code }

/-- The trials still to make. -/
def Conversion.finish : Nat → Conversion → Conversion
  | 0, c => c
  | n + 1, c => Conversion.finish n c.trial

/-- R24: the result, after the sixth trial. -/
def Conversion.result (c : Conversion) : Nat := (c.finish (6 - c.trials)).code

/-- R23: a conversion starts by sampling the line of its source. -/
def Conversion.begin (src : Source) (vin : Microvolts) : Conversion :=
  { source := src, vin := vin, trials := 0, code := 0, trialTime := 0, withdrawn := false }

/-- R25: a request is taken. -/
def Converter.request (src : Source) (lines : AnalogLines) (c : Converter) : Converter :=
  match c.current with
  | none => { c with current := some (Conversion.begin src (lines.read src)) }
  | some cur =>
    if c.queue.contains src || (cur.source == src && !cur.withdrawn) then c
    else if cur.source == src then { c with deferred := some src }
    else { c with queue := c.queue ++ [src] }

/-- R26: a source withdraws its request. -/
def Converter.withdraw (src : Source) (c : Converter) : Converter :=
  { queue := c.queue.filter (· != src),
    current := c.current.map fun x => if x.source = src then { x with withdrawn := true } else x,
    deferred := c.deferred.filter (· != src) }

/-- R25, the steps after the delivery: a deferred request joins the queue, and the head's conversion starts. -/
def Converter.advance (lines : AnalogLines) (c : Converter) : Converter :=
  let queue := c.queue ++ c.deferred.toList
  match queue with
  | [] => { queue := [], current := none, deferred := none }
  | src :: rest =>
    { queue := rest, current := some (Conversion.begin src (lines.read src)), deferred := none }

/-- Whose line is sampled next when the conversion in progress completes. -/
def Converter.nextSource (c : Converter) : Option Source := (c.queue ++ c.deferred.toList).head?

def Part.requestConversion (src : Source) (p : Part) : Part :=
  { p with converter := p.converter.request src p.lines }

def Part.withdrawConversion (src : Source) (p : Part) : Part :=
  { p with converter := p.converter.withdraw src }

/-! ## The Gate Counter -/

/-- R30, R33: a gate request. One that finds the counter in use abandons that gate first (R32). The ticks left of an
ARMED counter are not given: their 0 is the model's choice (log 29). -/
def GateCounter.request (length : Nat) (windows : Bool) : GateCounter :=
  { mode := .armed, length := length, ticksLeft := 0, count := 0, windows := windows }

/-- R30: the first frame tick after the request. A sync line already high counts once. -/
def GateCounter.openTick (syncHigh : Bool) (c : GateCounter) : GateCounter :=
  match c.mode with
  | .armed =>
    { c with mode := if c.windows then .continuous else .opened, ticksLeft := c.length,
             count := if syncHigh then 1 else 0 }
  | .idle => c
  | .opened => c
  | .continuous => c

/-- R30: a rising edge of the sync line. S saturates at G + 1. -/
def GateCounter.edge (c : GateCounter) : GateCounter :=
  match c.mode with
  | .opened => { c with count := satInc (c.length + 1) c.count }
  | .continuous => { c with count := satInc (c.length + 1) c.count }
  | .idle => c
  | .armed => c

/-- R33: a boundary tick opens the next window. -/
def GateCounter.nextWindow (c : GateCounter) : GateCounter := { c with ticksLeft := 32, count := 0 }

/-- R31: a frame tick that neither opens nor closes a gate. -/
def GateCounter.bareTick (c : GateCounter) : GateCounter :=
  match c.mode with
  | .opened => if 1 < c.ticksLeft then { c with ticksLeft := c.ticksLeft - 1 } else c
  | .continuous => if 1 < c.ticksLeft then { c with ticksLeft := c.ticksLeft - 1 } else c
  | .idle => c
  | .armed => c

/-- R31: Q. -/
def qualityOf (s g : Nat) : Nat := min 100 (100 * s / g)

/-- R35, R36: the measurement or the monitoring of an RCU is abandoned. Its conversion request is withdrawn, its
gate returns to IDLE, its phase to NONE, and code and count are dropped. That its key, G and requester are cleared
too is the model's choice (log 34). -/
def Part.abandonMeasurement (r : RcuId) (p : Part) : Part :=
  (p.withdrawConversion (.rcu r)).modRadio r fun x =>
    { x with gate := GateCounter.cleared, measurement := Measurement.cleared }

/-- R33: continuous measurement ends, if it runs. -/
def Part.endContinuous (r : RcuId) (p : Part) : Part :=
  if (p.radio r).measurement.requester = some .callManager then p.abandonMeasurement r else p

/-- R33, R36: continuous measurement starts, only while the RCU is IN_CALL. -/
def Part.startContinuous (r : RcuId) (key : Option Key) (p : Part) : Part :=
  if (p.radio r).condition = .inCall then
    (p.abandonMeasurement r).modRadio r fun x =>
      { x with gate := GateCounter.request 32 true,
               measurement := { phase := .none, key := key, gate := 32,
                                requester := some .callManager, code := none, count := none } }
  else p

end Sys2Proof.Machine
end

