-- ==== Sys2Proof/Machine/Radios.lean ====
section
/-! DEFINITION. What an RCU does with its order slot, its condition and its holder
(04_radio_channel_units.md). -/

namespace Sys2Proof.Machine

/-! ## Orders (Table 4-4) -/

/-- The conditions in which a holder's order may be sent. -/
def Order.allowedIn (o : Order) (c : Condition) : Bool :=
  match o with
  | .wake => c == .doze
  | .doze => c == .awake
  | .measure _ => c == .awake
  | .listen _ => c == .awake
  | .attach _ _ => c == .awake
  | .attachAny => c == .awake
  | .dial _ => c == .awake
  | .sendNote _ => c == .inCall
  | .answer => c == .awake
  | .reject => c == .awake
  | .release => c == .awake || c == .inCall
  | .camp _ => c == .awake

/-- The outcome limits. -/
def Order.outcomeLimit : Order → Nat
  | .wake => 2 * Config.second
  | .doze => 2 * Config.second
  | .measure _ => 200000
  | .listen _ => 2 * Config.second
  | .attach _ _ => 15 * Config.second
  | .attachAny => 30 * Config.second
  | .dial _ => 20 * Config.second
  | .sendNote _ => 8 * Config.second
  | .answer => 5 * Config.second
  | .reject => 5 * Config.second
  | .release => 5 * Config.second
  | .camp _ => 10 * Config.second

/-- The outcomes of each order. A blind acceptance must name its cell (R188). -/
def Order.answeredBy (o : Order) (x : ModuleOutcome) : Bool :=
  match o, x with
  | .wake, .done => true
  | .doze, .done => true
  | .measure _, .settled => true
  | .listen _, .heard _ _ _ => true
  | .listen _, .notHeard => true
  | .attach _ _, .accepted _ => true
  | .attach _ _, .rejectedBarred => true
  | .attach _ _, .rejectedCongested => true
  | .attach _ _, .rejectedSubscription => true
  | .attach _ _, .noCell => true
  | .attachAny, .accepted (some _) => true
  | .attachAny, .rejectedBarred => true
  | .attachAny, .rejectedCongested => true
  | .attachAny, .rejectedSubscription => true
  | .attachAny, .noCell => true
  | .dial _, .alerting => true
  | .dial _, .answered => true
  | .dial _, .dialRejected => true
  | .sendNote _, .delivered => true
  | .sendNote _, .notDelivered => true
  | .answer, .done => true
  | .reject, .done => true
  | .release, .done => true
  | .camp _, .camped => true
  | .camp _, .noCell => true
  | _, _ => false

/-- The orders whose outcome limit is a failure expiry. The others' is a fault expiry. -/
def Order.failsSoft : Order → Bool
  | .wake => false
  | .doze => false
  | .measure _ => false
  | .listen _ => true
  | .attach _ _ => true
  | .attachAny => true
  | .dial _ => true
  | .sendNote _ => true
  | .answer => false
  | .reject => true
  | .release => true
  | .camp _ => false

/-- R61: the orders whose cancel is followed by a RELEASE. -/
def Order.needsRelease : Order → Bool
  | .attach _ _ => true
  | .attachAny => true
  | .dial _ => true
  | .answer => true
  | .wake => false
  | .doze => false
  | .measure _ => false
  | .listen _ => false
  | .sendNote _ => false
  | .reject => false
  | .release => false
  | .camp _ => false

/-! ## The order slot -/

/-- R57: the tag counter moves on by one, from 15 to 1. -/
def nextTag (t : Nat) : Nat := if t < 15 then t + 1 else 1

/-- R57: an order is sent. -/
def Radio.send (o : Order) (i : Issuer) (x : Radio) : Radio :=
  { x with slot := some { order := o, tag := x.tagCounter, issuer := i, phase := .ackWait,
                          limit := some Config.ackLimit, cancel := none },
           tagCounter := nextTag x.tagCounter, txQueue := x.txQueue ++ [o.frame x.tagCounter] }

/-- R56: a holder's offer. It is not taken while the slot is PENDING or in a condition that does not allow it. -/
def Radio.offer (o : Order) (x : Radio) : Radio :=
  if x.slot.isNone && o.allowedIn x.condition then x.send o .holder else x

/-- R60, R61: a pending order of the holder is retired, and its CANCEL joins the slot. -/
def Radio.retire (x : Radio) : Radio :=
  match x.slot with
  | some q =>
    if q.issuer = .holder ∧ q.phase ≠ .retired then
      { x with slot := some { q with phase := .retired, limit := none,
                                     cancel := some { tag := x.tagCounter, phase := .ackWait,
                                                      limit := Config.ackLimit } },
               tagCounter := nextTag x.tagCounter,
               txQueue := x.txQueue ++ [cancelFrame q.tag x.tagCounter] }
    else x
  | none => x

/-- R60: a request to abandon. It also stops a running answer timer. -/
def Radio.abandon (x : Radio) : Radio := { x.retire with answerTimer := none }

def Part.offer (r : RcuId) (o : Order) (p : Part) : Part := p.modRadio r (Radio.offer o)

def Part.abandon (r : RcuId) (p : Part) : Part := p.modRadio r Radio.abandon

/-! ## Condition and supply -/

/-- R68: what happens at each event at which the supply goes off. -/
def Part.supplyOff (r : RcuId) (p : Part) : Part :=
  (p.abandonMeasurement r).modRadio r fun x =>
    { x with slot := none, answerTimer := none, readyTimer := none, dozeTimer := none,
             wakeDue := false, receiver := .empty }

/-- R69: entry to BOOTING. -/
def Radio.boot (x : Radio) : Radio :=
  { x with condition := .booting, readyTimer := some Config.readyTime }

/-- R74: an RCU goes OFF. -/
def Part.goOff (r : RcuId) (p : Part) : Part :=
  (p.supplyOff r).modRadio r fun x => { x with condition := .off }

/-- R71: a WAKE goes out, and the RCU goes WAKING at the sending. -/
def Radio.wakeUp (x : Radio) : Radio := { x.send .wake .rcu with condition := .waking, wakeDue := false }

/-- R71: the bring-up that an assignment starts. A DOZE in flight is waited for, and the WAKE follows its DONE
whether or not the RCU is still assigned then (Reaction.wake). -/
def Radio.bringUp (x : Radio) : Radio :=
  let y := { x with dozeTimer := none }
  match y.condition with
  | .off => y.boot
  | .doze => if y.slot.isNone then y.wakeUp else { y with wakeDue := true }
  | .booting => y
  | .waking => y
  | .awake => y
  | .camped => y
  | .inCall => y
  | .faulted => y
  | .disabled => y

/-- The RCU leaves IN_CALL for AWAKE: the answer timer stops (R67) and continuous measurement ends (R33). -/
def Part.leaveInCall (r : RcuId) (p : Part) : Part :=
  (p.endContinuous r).modRadio r fun x => { x with condition := .awake, answerTimer := none }

/-- Table 4-5: the condition change of an outcome. The answer timer of an ALERTING is started by its caller. -/
def Part.applyOutcome (r : RcuId) (o : Order) (x : ModuleOutcome) (p : Part) : Part :=
  match o, x, (p.radio r).condition with
  | .wake, .done, .waking => p.modRadio r fun y => { y with condition := .awake }
  | .dial _, .alerting, .awake => p.modRadio r fun y => { y with condition := .inCall }
  | .dial _, .answered, .awake => p.modRadio r fun y => { y with condition := .inCall }
  | .answer, .done, .awake => p.modRadio r fun y => { y with condition := .inCall }
  | .camp _, .camped, .awake => p.modRadio r fun y => { y with condition := .camped }
  | .release, .done, .inCall => p.leaveInCall r
  | _, _, _ => p

/-- R58, step 3, and R76: the first outcome taken while the proving mark is set. -/
def Part.prove (r : RcuId) (p : Part) : Part :=
  let x := p.radio r
  if x.proving then
    let q := p.setRadio r { x with proving := false, faultCount := 0 }
    if x.faultCount = 0 then q else q.raiseRadioChanged
  else p

/-! ## A sweep that ends at the instant at which its next item has begun (R53) -/

def Order.isMeasure : Order → Bool
  | .measure _ => true
  | _ => false

/-- The item in hand began at the instant at which the one before it ended, and its MEASURE has not gone out
(log 10, log 28). -/
def Radio.begunNow (x : Radio) : Bool :=
  x.sweep.any (fun c => c.endedNow && c.phase == .measuring) &&
    x.slot.any fun q => q.phase == .ackWait && q.order.isMeasure

/-- The tag before a tag (R57). -/
def lastTag (t : Nat) : Nat := if 1 < t then t - 1 else 15

/-- R53: an abandonment that meets the outcome before it finds the next item not begun. The MEASURE is taken back: its
slot, its tag and its frame. -/
def Radio.unbegin (x : Radio) : Radio :=
  if x.begunNow then
    { x with slot := none, tagCounter := lastTag x.tagCounter, txQueue := x.txQueue.dropLast }
  else x

def Part.unbeginItem (r : RcuId) (p : Part) : Part := p.modRadio r Radio.unbegin

/-! ## Change of holder -/

/-- R64: the work in flight when the holder changes. The RELEASE of its step 3 is Reaction.releaseCall. A CAMPED
RCU goes AWAKE (R73). -/
def Part.holderLeaves (r : RcuId) (p : Part) : Part :=
  ((p.abandon r).endContinuous r).modRadio r fun x =>
    if x.condition = .camped then { x with condition := .awake } else x

/-- R71, R85: an RCU is assigned, and starts its bring-up. -/
def Part.assign (r : RcuId) (h : Holder) (p : Part) : Part :=
  p.modRadio r fun x => Radio.bringUp { x with holder := some h }

/-- R86: a holder gives up its RCU. The Arbiter serves the queue by Reaction.serve. -/
def Part.releaseRcu (r : RcuId) (p : Part) : Part :=
  (p.holderLeaves r).modRadio r fun x => { x with holder := none }

end Sys2Proof.Machine
end

