-- ==== Sys2Proof/Machine/Records.lean ====
section
/-! DEFINITION. The call records, the Recent-Carrier Stack, the plans and the test result, as far as they touch
no radio (06_placing_a_call.md, 07_keeping_ending_and_returning_calls.md). -/

namespace Sys2Proof.Machine

/-! ## The Recent-Carrier Stack (R128, R129) -/

/-- R128: what a push leaves. The key that stood with the same band and channel leaves its place, or the bottom
of a full stack is dropped. -/
def pushKey (c : CarrierKey) (stack : List CarrierKey) : List CarrierKey :=
  let others := stack.filter (·.key != c.key)
  c :: others.take (Config.stackDepth - 1)

def Part.pushStack (c : CarrierKey) (p : Part) : Part := Part.prune { p with stack := pushKey c p.stack }

/-- R139: a key is removed at the place where it stands. -/
def Part.dropStackKey (key : Key) (p : Part) : Part :=
  Part.prune { p with stack := p.stack.filter (·.key != key) }

/-- R129: the top key qualifies. The carrier tested is the one stored with the key. -/
def Part.campQualifies (g : Settings) (p : Part) (c : CarrierKey) : Bool :=
  (p.entryOf c.key).any (·.eligible g) && g.subscribed c.carrier

/-- R129: the camp choice. It pops keys from the top until one qualifies. -/
def Part.campChoice (g : Settings) (p : Part) : Part :=
  Part.prune { p with stack := p.stack.dropWhile fun c => !p.campQualifies g c }

/-! ## Plans (R101, R130) -/

def planItem (g : Settings) (x : Nat × Entry) : PlanItem := { slot := x.1, score := x.2.shownScore g }

/-- R101: a normal plan's items. -/
def Part.normalPlan (g : Settings) (p : Part) : List PlanItem :=
  ((p.ranking g).take Config.planLength).map (planItem g)

/-- Items added in order, a slot only once. -/
def addItems : List PlanItem → List PlanItem → List PlanItem
  | plan, [] => plan
  | plan, x :: rest => if plan.any (·.slot == x.slot) then addItems plan rest else addItems (plan ++ [x]) rest

/-- A present entry of a key, with its slot. -/
def Part.placed (p : Part) (key : Key) : Option (Nat × Entry) :=
  (p.slotOf key).bind fun i => (p.entryAt i).map fun e => (i, e)

/-- R130: a regain plan's items, from the dropped cell, the stacked cells and the ranking. -/
def Part.regainPlan (g : Settings) (dropped : Option Key) (p : Part) : List PlanItem :=
  let first := ((dropped.bind p.placed).map (planItem g)).toList
  let stacked := (p.stack.filterMap fun c => (p.placed c.key).filter fun x => x.2.eligible g).map (planItem g)
  let ranked := (p.ranking g).map (planItem g)
  (addItems (addItems first stacked) ranked).take Config.planLength

/-- R101: the normal plan is put in place of the earlier one. -/
def Part.buildPlan (g : Settings) (k : RecId) (p : Part) : Part :=
  let items := p.normalPlan g
  Part.prune (p.modCall k fun c => { c with plan := items, cursor := 0 })

/-- R130: the regain plan is put in place of the earlier one. -/
def Part.buildRegainPlan (g : Settings) (k : RecId) (p : Part) : Part :=
  let items := p.regainPlan g (p.call k).droppedKey
  Part.prune (p.modCall k fun c =>
    { c with plan := items, cursor := 0, blindTried := false, dialled := false, droppedKey := none })

/-- The plan is emptied, with the removals of R20. The cursor is not named by the rule and stays (log 18). -/
def Part.emptyPlan (k : RecId) (p : Part) : Part := Part.prune (p.modCall k fun c => { c with plan := [] })

/-! ## States of a record -/

/-- R121, R119: the fields at the entry to IDLE. R120 and R122 name no fields where a record goes IDLE from QUEUED or
by a revocation: that the regain flag clears there too is the model's choice (log 35). R119 names none where the TEST
record goes IDLE at once: the seek step START and the rest are the model's choice (log 37). -/
def CallRec.toIdle (c : CallRec) : CallRec :=
  { c with state := .idle, step := .start, attempt := none, regain := false, fadeCount := 0,
           fading := false, pauseTimer := none, droppedKey := none, regainTimer := none,
           ringTimer := none, answerInHand := false, ringTimedOut := false, pagedCell := none }

/-- A record goes IDLE with an empty plan. -/
def Part.recordIdle (k : RecId) (p : Part) : Part := (p.emptyPlan k).modCall k CallRec.toIdle

/-- R98: a record is granted an RCU, or takes one. With a dropped key it first builds its regain plan (R134). -/
def Part.seek (g : Settings) (k : RecId) (p : Part) : Part :=
  if (p.call k).droppedKey.isSome then
    (p.buildRegainPlan g k).modCall k fun c => { c with state := .seeking, step := .next, radioHeld := true }
  else p.modCall k fun c => { c with state := .seeking, step := .start, radioHeld := true }

/-- R97, step 1, R96 and R118: a call leaves IDLE. The sequence number moves on. -/
def Part.startCall (k : RecId) (p : Part) : Part :=
  let n := p.callSequence + 1
  ({ p with callSequence := n }).setCall k { CallRec.initial with sequence := n, state := .queued }

/-- R119, R173: the test result is written. -/
def Part.writeTest (x : TestResult) (p : Part) : Part := Part.raiseTestDone { p with testResult := x }

/-- R112: a failed try ends. The cursor stays in its range. -/
def CallRec.failTry (cause : Cause) (c : CallRec) : CallRec :=
  { c with attempt := none, cursor := satInc Config.planLength c.cursor, state := .seeking,
           step := .next, lastCause := cause }

def Part.failTry (k : RecId) (cause : Cause) (p : Part) : Part := p.modCall k (CallRec.failTry cause)

/-! ## Access and destination (R103, R104) -/

/-- R103. -/
def Entry.accessFor (g : Settings) (e : Entry) : Access :=
  if g.subscribed e.carrier && !e.fullRefused then .full else .limited

/-- R104. -/
def CallRec.destination (g : Settings) (c : CallRec) (access : Access) (opsFailed : Bool) : Destination :=
  if access = .limited then .publicNumber
  else if c.regain ∧ c.answeredDest = some .publicNumber then .publicNumber
  else if g.opsDigits = [] ∨ opsFailed then .publicNumber
  else .ops

def Settings.digits (g : Settings) : Destination → List Nat
  | .ops => g.opsDigits
  | .publicNumber => g.publicDigits

/-- R114: the site note, built at this event. -/
def Part.siteNote (g : Settings) (p : Part) (k : RecId) (access : Access) : SiteNote :=
  { siteCode := g.siteCode, kmPost := g.kmPost, side := k, sequence := (p.call k).sequence,
    battery := p.power.battery, access := access, segments := (p.call k).segments }

end Sys2Proof.Machine
end

