-- ==== Sys2Proof/Machine/Arbiter.lean ====
section
/-! DEFINITION. The Radio Pool Arbiter (05_sharing_the_radios.md), with what a holder does when it is granted an
RCU or loses one to preemption, and the requests and ends of background sweeps (03_survey.md). -/

namespace Sys2Proof.Machine

/-! ## Sweep contexts -/

/-- R40, R41, R52: a context at its creation. -/
def Sweep.create (kind : SweepKind) : Sweep :=
  { kind := kind, state := .running, phase := .none, cursor := none, item := none, pair := none, yields := 0,
    endedNow := false }

/-- R53: the context on an RCU is removed, and its measurement is abandoned (R35). -/
def Part.removeSweep (r : RcuId) (p : Part) : Part :=
  if (p.radio r).sweep.isSome then
    (p.abandonMeasurement r).modRadio r fun x => { x with sweep := none }
  else p

/-- R39, R51: no background sweep is requested or running any more. -/
def Part.surveyIdle (g : Settings) (p : Part) : Part :=
  { p with survey := { p.survey with
      state := if g.listHasItem then .idle else .notConfigured, kind := none } }

/-- R53: a background sweep whose RCU is taken away. -/
def Part.surveyLosesRcu (g : Settings) (r : RcuId) (p : Part) : Part := (p.removeSweep r).surveyIdle g

/-- R51, R54: a background sweep ends and gives its RCU back. -/
def Part.surveyReleases (g : Settings) (r : RcuId) (p : Part) : Part :=
  (p.surveyLosesRcu g r).releaseRcu r

/-- R85: the survey claimant is granted an RCU. -/
def Part.surveyGranted (r : RcuId) (p : Part) : Part :=
  let kind := match p.survey.kind with
    | some .refresh => SweepKind.refresh
    | some .full => SweepKind.full
    | none => SweepKind.full
  ({ p with survey := { p.survey with state := .sweeping } }).modRadio r fun x =>
    { x with sweep := some (Sweep.create kind) }

/-! ## The claim queue -/

/-- R82: a claimant joins at its place. -/
def joinQueue (w : Waiting) : List Waiting → List Waiting
  | [] => [w]
  | x :: rest => if w.rank < x.rank then w :: x :: rest else x :: joinQueue w rest

/-- R86: a claimant leaves the queue. -/
def Part.leaveQueue (h : Holder) (p : Part) : Part :=
  { p with claims := p.claims.filter (·.claimant != h) }

/-- What a claimant does at its grant: a record seeks (R98), the survey's context is created (R41). -/
def Part.granted (g : Settings) (h : Holder) (r : RcuId) (p : Part) : Part :=
  match h with
  | .sideA => p.seek g .sideA
  | .sideB => p.seek g .sideB
  | .test => p.seek g .test
  | .survey => p.surveyGranted r
  | .window => p

/-- R85: a grant. -/
def Part.grant (g : Settings) (h : Holder) (r : RcuId) (p : Part) : Part :=
  ((p.leaveQueue h).assign r h).granted g h r

/-! ## Preemption (R88, R89) -/

/-- R119: the TEST record loses its RCU to a panel claimant. A result already written stays, and then last cause
stays too (log 17). -/
def Part.testPreempted (r : RcuId) (p : Part) : Part :=
  let q := (p.removeSweep r).recordIdle .test
  if p.testResult = .running then
    (q.writeTest .preempted).modCall .test fun c => { c with lastCause := .preempted }
  else q

/-- R89, step 2: the old holder is told, and withdraws. The window closes. -/
def Part.losesToPreemption (g : Settings) (old : Holder) (r : RcuId) (p : Part) : Part :=
  match old with
  | .survey => p.surveyLosesRcu g r
  | .test => p.testPreempted r
  | .window => { p with window := none }
  | .sideA => p
  | .sideB => p

/-- R89. A sweep that loses its RCU at the instant of an outcome has not begun its next item (R53). -/
def Part.preempt (g : Settings) (h : Holder) (r : RcuId) (p : Part) : Part :=
  let moved := ((p.unbeginItem r).holderLeaves r).assign r h
  let told := match (p.radio r).holder with
    | some old => moved.losesToPreemption g old r
    | none => moved
  (told.leaveQueue h).granted g h r

/-! ## Claims -/

/-- R83, step 1: the RCU the claim is granted at once. No claimant it would stand behind may be waiting. -/
def Part.claimGrant (w : Waiting) (p : Part) : Option RcuId :=
  if p.claims.any fun x => decide (x.rank ≤ w.rank) then none else p.grantNow

/-- R83. -/
def Part.claim (g : Settings) (w : Waiting) (p : Part) : Part :=
  if (p.rcuOf w.claimant).isSome || p.waits w.claimant then p
  else
    match p.claimGrant w with
    | some r => p.grant g w.claimant r
    | none =>
      match (if w.claimant.isPanel then p.victimRcu else none) with
      | some r => p.preempt g w.claimant r
      | none => { p with claims := joinQueue w p.claims }

/-- R90: an RCU moves directly between holders of the Call Manager. Where the hand-over is not taken, the giving
party releases. -/
def Part.handOver (giving receiving : Holder) (r : RcuId) (p : Part) : Part :=
  if (p.radio r).holder = some giving ∧ p.rcuOf receiving = none ∧ p.waits receiving = false then
    (p.holderLeaves r).assign r receiving
  else if (p.radio r).holder = some giving then p.releaseRcu r
  else p

/-- R41: a background sweep is requested. The claim is made in every state but WAITING, SWEEPING and ENDING. -/
def Part.requestSweep (g : Settings) (kind : BackgroundKind) (p : Part) : Part :=
  match p.survey.state with
  | .notConfigured => Part.claim g { claimant := .survey, requeued := false }
      { p with survey := { p.survey with state := .waiting, kind := some kind } }
  | .idle => Part.claim g { claimant := .survey, requeued := false }
      { p with survey := { p.survey with state := .waiting, kind := some kind } }
  | .waiting => p
  | .sweeping => p
  | .ending => p

end Sys2Proof.Machine
end

