-- ==== Sys2Proof/Machine/Survey.lean ====
section
/-! DEFINITION. The items and ends of sweeps, and the engine's answer to its timer, the Channel List and the power
level (03_survey.md). -/

namespace Sys2Proof.Machine

/-! ## Items (R46 to R50) -/

/-- The items of the Channel List with their positions, in list order. -/
def Settings.items (g : Settings) : List (Nat × ChannelItem) :=
  g.channels.zipIdx.filterMap fun x => x.1.map fun i => (x.2, i)

/-- The first place a cursor advance looks at. -/
def Sweep.searchFrom (c : Sweep) : Nat :=
  match c.cursor with
  | none => 0
  | some i => i + 1

/-- R46, R47, R48: where the cursor moves to, and the item read there. -/
def Part.nextItem (g : Settings) (c : Sweep) (p : Part) : Option (Nat × SweepItem) :=
  let listed := (g.items.find? fun x => decide (c.searchFrom ≤ x.1)).map fun x =>
    (x.1, { key := x.2.key, gate := x.2.gate : SweepItem })
  let stored := (p.entries.find? fun x => decide (c.searchFrom ≤ x.1)).map fun x =>
    (x.1, { key := x.2.key, gate := 8 : SweepItem })
  match c.kind with
  | .full => listed
  | .call _ => listed
  | .refresh => stored

/-- R34: the RCU takes a request to measure, sends MEASURE and goes SETTLING. -/
def Radio.measure (item : SweepItem) (x : Radio) : Radio :=
  if x.condition = .awake ∧ x.measurement.phase = .none then
    Radio.offer (.measure item.key)
      { x with measurement := { phase := .settling, key := some item.key, gate := item.gate,
                                requester := some .sweep, code := none, count := none } }
  else x

/-- A change of the sweep context on an RCU, if there is one. -/
def Part.modSweep (r : RcuId) (f : Sweep → Sweep) (p : Part) : Part :=
  p.modRadio r fun x => { x with sweep := x.sweep.map f }

/-- R49: an item begins. -/
def Part.beginItem (r : RcuId) (cursor : Nat) (item : SweepItem) (p : Part) : Part :=
  (p.modSweep r fun c => { c with cursor := some cursor, item := some item, pair := none,
                                  phase := .measuring }).modRadio r (Radio.measure item)

/-- The item in hand, if any, is discarded. -/
def Sweep.dropItem (c : Sweep) : Sweep := { c with phase := .none, item := none, pair := none }

/-- An item ends. The next one begins when the RCU is ready (Reaction.sweepItem). -/
def Sweep.endItem (c : Sweep) : Sweep := { c.dropItem with endedNow := true }

/-- R51: a sweep completes. The record of a CALL sweep builds its plan (R100, second half). -/
def Part.completeSweep (g : Settings) (r : RcuId) (kind : SweepKind) (p : Part) : Part :=
  match kind with
  | .full => p.surveyReleases g r
  | .refresh => p.surveyReleases g r
  | .call k =>
    let q := p.removeSweep r
    if (q.call k).state = .seeking ∧ (q.call k).step = .sweeping then
      (q.buildPlan g k).modCall k fun c => { c with step := .next }
    else q

/-- R46, R47, R48: the next item begins, or the sweep has passed the end and completes. -/
def Part.sweepAdvances (g : Settings) (r : RcuId) (p : Part) : Part :=
  match (p.radio r).sweep with
  | none => p
  | some c =>
    match p.nextItem g c with
    | some x => p.beginItem r x.1 x.2
    | none => p.completeSweep g r c.kind

/-- R52: an item ends, with a yield if its entry is eligible. The second yield ends a CALL sweep early. -/
def Part.itemEnds (g : Settings) (r : RcuId) (key : Key) (p : Part) : Part :=
  match (p.radio r).sweep with
  | none => p
  | some c =>
    match c.kind with
    | .full => p.modSweep r Sweep.endItem
    | .refresh => p.modSweep r Sweep.endItem
    | .call k =>
      if (p.entryOf key).any (·.eligible g) then
        let q := p.modSweep r fun c => { c.endItem with yields := satInc 2 c.yields }
        if 1 ≤ c.yields then q.completeSweep g r (.call k) else q
      else p.modSweep r Sweep.endItem

/-- R49: the pair of an item is taken to the Cell Table. -/
def Part.takePair (g : Settings) (r : RcuId) (key : Key) (l q : Nat) (p : Part) : Part :=
  match (p.radio r).sweep with
  | none => p
  | some c =>
    if c.phase = .measuring then
      match p.slotOf key with
      | some i => (p.modEntry i (Entry.measured g (c.kind == .refresh) l q)).itemEnds g r key
      | none =>
        if c.kind = .refresh ∨ l < g.levelFloor then p.modSweep r Sweep.endItem
        else (p.modSweep r fun c => { c with phase := .listening, pair := some (l, q) }).offer r (.listen key)
    else p

/-- R50: HEARD. -/
def Part.sweepHeard (g : Settings) (r : RcuId) (carrier : Nat) (kind : AccessKind) (barring : Barring)
    (p : Part) : Part :=
  match (p.radio r).sweep with
  | none => p
  | some c =>
    match c.phase, c.item, c.pair with
    | .listening, some item, some lq =>
      (p.insertHeard g item.key lq.1 lq.2 carrier kind barring).itemEnds g r item.key
    | _, _, _ => p

/-- R50: NOT_HEARD, and the expiry that counts as it. -/
def Part.sweepNotHeard (r : RcuId) (p : Part) : Part :=
  p.modSweep r fun c => if c.phase = .listening then c.endItem else c

/-! ## Pairs (R34) -/

/-- R34: with both present, the pair is formed and handed to the sweep context. -/
def Part.formPair (g : Settings) (r : RcuId) (p : Part) : Part :=
  let m := (p.radio r).measurement
  match m.phase, m.key, m.code, m.count with
  | .sampling, some key, some code, some count =>
    (p.modRadio r fun x => { x with measurement := Measurement.cleared }).takePair g r key code
      (qualityOf count m.gate)
  | _, _, _, _ => p

/-! ## The engine (R42 to R45, R54) -/

/-- R42: a period of the survey timer. -/
def Settings.surveyTime (g : Settings) (level : PowerLevel) : Nat :=
  let t := g.surveyPeriod * Config.second
  if level = .normal then t else 2 * t

/-- R43: the pass count rises by 1, from 3 to 0. -/
def nextPass (n : Nat) : Nat := if n < 3 then n + 1 else 0

/-- R43: what an expiry does beside the restart. -/
def Part.surveyExpires (g : Settings) (p : Part) : Part :=
  let n := nextPass p.survey.passCount
  let counted := { p with survey := { p.survey with passCount := n } }
  if p.power.level = .shed then p
  else
    match p.survey.state with
    | .notConfigured => p
    | .waiting => counted
    | .sweeping => counted
    | .ending => counted
    | .idle => counted.requestSweep g (if n = 0 ∨ p.eligibleCount g < 3 then .full else .refresh)

/-- R44: a write has changed the emptiness of the Channel List. -/
def Part.listChanged (g : Settings) (had : Bool) (p : Part) : Part :=
  match had, g.listHasItem, p.survey.state with
  | false, true, .notConfigured =>
    if p.power.level = .shed then { p with survey := { p.survey with state := .idle } }
    else p.requestSweep g .full
  | true, false, .idle => { p with survey := { p.survey with state := .notConfigured } }
  | _, _, _ => p

/-- R45. -/
def Part.startSweepResult (p : Part) : CommandResult :=
  if p.power.level = .shed then .refusedPower
  else
    match p.survey.state with
    | .notConfigured => .refusedState
    | .waiting => .refusedBusy
    | .sweeping => .refusedBusy
    | .ending => .refusedBusy
    | .idle => .accepted

/-- R54: the context goes ENDING, and the engine with it. -/
def Part.sweepEnding (r : RcuId) (p : Part) : Part :=
  let q := ((p.abandon r).abandonMeasurement r).modSweep r fun c =>
    { c.dropItem with state := .ending }
  { q with survey := { q.survey with state := .ending } }

/-- R54: entry to SHED acts on the background sweep. Phase NONE before the first item is the RCU still waking
(log 20). -/
def Part.shedSweep (g : Settings) (p : Part) : Part :=
  match p.survey.state with
  | .waiting => (p.leaveQueue .survey).surveyIdle g
  | .sweeping =>
    match p.rcuOf .survey with
    | none => p
    | some r =>
      match (p.radio r).sweep with
      | none => p
      | some c =>
        match c.phase, c.cursor, (p.radio r).measurement.phase with
        | .none, none, _ => p.surveyReleases g r
        | .measuring, _, .sampling => p.surveyReleases g r
        | _, _, _ => p.sweepEnding r
  | .notConfigured => p
  | .idle => p
  | .ending => p

end Sys2Proof.Machine
end

