-- ==== Sys2Proof/Machine/Callback.lean ====
section
/-! DEFINITION. The callback window (07_keeping_ending_and_returning_calls.md section 7.5). -/

namespace Sys2Proof.Machine

/-- R143: the window closes. In LENT it holds no RCU. -/
def Part.closeWindow (p : Part) : Part :=
  match p.window with
  | none => p
  | some w =>
    let q := { p with window := none }
    match w.state with
    | .lent _ => q
    | .camping =>
      match q.rcuOf .window with
      | some r => q.releaseRcu r
      | none => q
    | .camped =>
      match q.rcuOf .window with
      | some r => q.releaseRcu r
      | none => q

/-- The window is LENT to a record. -/
def Window.lentTo (w : Window) (d : Side) : Bool := w.state == .lent d

/-- R143: the lent record loses or gives up the lent RCU, but for the return of R142. -/
def Part.closeLent (k : RecId) (p : Part) : Part :=
  match p.window, k.side with
  | some w, some d => if w.lentTo d then { p with window := none } else p
  | _, _ => p

/-- R139: a camp failure. The CAMP on the new key is Reaction.camp. -/
def Part.campFailure (g : Settings) (p : Part) : Part :=
  match p.window with
  | none => p
  | some w =>
    let q := (p.dropStackKey w.campKey.key).campChoice g
    match q.stack with
    | c :: _ => { q with window := some { w with campKey := c, state := .camping } }
    | [] => q.closeWindow

/-- R136 case 1, R138: after the camp choice, a window opens on the key it named. The RCU passes to it. -/
def Part.openWindow (g : Settings) (d : Side) (r : RcuId) (c : CarrierKey) (p : Part) : Part :=
  let q := p.closeWindow.handOver d.record.holder .window r
  if q.rcuOf .window = some r then
    { q with window := some { side := d, sequence := (p.call d.record).sequence, campKey := c,
                              state := .camping, expiry := g.callbackWindow * Config.minute } }
  else q

/-- R142: the RCU passes back to the window that lent it. -/
def Part.returnToWindow (d : Side) (r : RcuId) (p : Part) : Part :=
  let q := p.handOver d.record.holder .window r
  { q with window := q.window.map fun w => { w with state := .camping } }

/-- R140: the record that is given a call-back. -/
def Part.pageChoice (d : Side) (p : Part) : Option Side :=
  if (p.call d.record).state = .idle then some d
  else if (p.call d.other.record).state = .idle then some d.other
  else none

/-- R141: a record that takes a call-back. -/
def CallRec.alerting (w : Window) : CallRec :=
  { CallRec.initial with state := .alertingIn, sequence := w.sequence, incoming := true, radioHeld := true,
                         ringTimer := some Config.ringTime, pagedCell := some w.campKey }

/-- R140: PAGED is reported to the window, whose RCU has left CAMPED. -/
def Part.windowPaged (r : RcuId) (p : Part) : Part :=
  match p.window with
  | none => p
  | some w =>
    match p.pageChoice w.side with
    | some d =>
      let q := p.handOver .window d.record.holder r
      ({ q with window := some { w with state := .lent d } }).setCall d.record (CallRec.alerting w)
    | none => { p with window := some { w with state := .camping } }.offer r .reject

end Sys2Proof.Machine
end

