-- ==== Sys2Proof/Machine/Calls.lean ====
section
/-! DEFINITION. The Call Manager's work on a record: rounds, tries, dials, connection, drops and clearing
(06_placing_a_call.md, 07_keeping_ending_and_returning_calls.md). -/

namespace Sys2Proof.Machine

/-! ## Leaving CONNECTED, entering CLEARING -/

/-- R127, R126, R38: what happens at each event at which a record leaves CONNECTED. -/
def Part.leaveConnected (k : RecId) (r : RcuId) (p : Part) : Part :=
  let q := match k.side with
    | some d => p.setVoice d none
    | none => p
  (q.endContinuous r).modCall k fun c => { c with fadeCount := 0, fading := false }

/-- R53: a CALL sweep ends when its record leaves SEEKING. -/
def Part.dropCallSweep (k : RecId) (r : RcuId) (p : Part) : Part :=
  if (p.radio r).sweep.any (·.kind == .call k) then (p.unbeginItem r).removeSweep r else p

/-- R121, step 3: a RELEASE or REJECT of the record is not abandoned. -/
def Pending.runsOn (q : Pending) : Bool := q.order == .release || q.order == .reject

/-- R121, steps 3 and 4, on the RCU of the record. -/
def Radio.clear (x : Radio) : Radio :=
  let y : Radio := if x.slot.any (·.runsOn) then { x with answerTimer := none } else x.abandon
  if y.condition = .inCall then y.offer .release else y

/-- R121, steps 1 and 2. The regain timer stops (R131), and what waits for a regain plan goes with it (log 15). -/
def CallRec.toClearing (c : CallRec) : CallRec :=
  { c with state := .clearing, step := .start, pauseTimer := none, regainTimer := none, ringTimer := none,
           droppedKey := none }

/-- R121: entry to CLEARING. Leaving it is Reaction.leaveClearing. -/
def Part.enterClearing (k : RecId) (p : Part) : Part :=
  let q := (p.emptyPlan k).modCall k CallRec.toClearing
  match p.callRcu k with
  | some r => (q.dropCallSweep k r).modRadio r Radio.clear
  | none => q

/-- R136, case 1: the record's call and the power level ask for a new callback window. -/
def Part.wantsWindow (g : Settings) (k : RecId) (p : Part) : Bool :=
  k.side.isSome && (p.call k).fullConnection && decide (0 < g.callbackWindow) && p.power.level != .shed

/-- R136, cases 2 and 3: back to the lending window, or to the pool. A window LENT to the record then closes
(R143). -/
def Part.giveUpRcu (k : RecId) (d : Option Side) (r : RcuId) (p : Part) : Part :=
  match d, p.window with
  | some d, some w =>
    if (p.call k).ringTimedOut ∧ w.state = .lent d then p.returnToWindow d r
    else (p.closeLent k).releaseRcu r
  | _, _ => p.releaseRcu r

/-- R136: the RCU passes on. -/
def Part.passOn (g : Settings) (k : RecId) (r : RcuId) (p : Part) : Part :=
  match p.wantsWindow g k, k.side with
  | true, some d =>
    let q := p.campChoice g
    match q.stack with
    | c :: _ => q.openWindow g d r c
    | [] => q.giveUpRcu k (some d) r
  | _, d => p.giveUpRcu k d r

/-- R136: a record leaves CLEARING and goes IDLE. -/
def Part.leaveClearing (g : Settings) (k : RecId) (p : Part) : Part :=
  match p.callRcu k with
  | some r => (p.passOn g k r).recordIdle k
  | none => p.recordIdle k

/-! ## Rounds and tries -/

/-- R100: a round begins. -/
def Part.beginRound (g : Settings) (k : RecId) (r : RcuId) (p : Part) : Part :=
  let q := p.modCall k fun c => { c with blindTried := false, dialled := false }
  if 1 ≤ (q.call k).rounds ∨ q.eligibleCount g < 2 then
    (q.modCall k fun c => { c with step := .sweeping }).modRadio r fun x =>
      { x with sweep := some (Sweep.create (.call k)) }
  else (q.buildPlan g k).modCall k fun c => { c with step := .next }

/-- R102, R118: the recheck of a plan item. -/
def Part.usable (g : Settings) (k : RecId) (p : Part) (x : PlanItem) : Bool :=
  (p.entryAt x.slot).any fun e => e.eligible g && (k != .test || e.accessFor g == .full)

/-- R102: the item the record comes to from its cursor, with its place in the plan. Skipped items are passed. -/
def Part.nextTry (g : Settings) (k : RecId) (p : Part) : Option (PlanItem × Nat) :=
  ((p.call k).plan.zipIdx.drop (p.call k).cursor).find? fun x => p.usable g k x.1

/-- R104, with R118: the TEST record dials the operations centre and no other number. -/
def Part.destinationFor (g : Settings) (k : RecId) (access : Access) (opsFailed : Bool) (p : Part) :
    Destination :=
  match k with
  | .test => .ops
  | .sideA => p.sideA.destination g access opsFailed
  | .sideB => p.sideB.destination g access opsFailed

/-- R102, R103, R105: a try is made on a plan item. Its destination is first chosen here (log 16). -/
def Part.beginTry (g : Settings) (k : RecId) (r : RcuId) (x : PlanItem × Nat) (p : Part) : Part :=
  match p.entryAt x.1.slot with
  | none => p
  | some e =>
    let access := e.accessFor g
    let cell : CarrierKey := { key := e.key, carrier := e.carrier }
    let a : Attempt := { target := .slot x.1.slot, cell := some cell, access := access,
                         destination := p.destinationFor g k access false, attached := false,
                         opsFailed := false }
    (p.modCall k fun c => { c with cursor := x.2, attempt := some a, state := .attaching }).offer r
      (.attach e.key access)

/-- R108: a blind attempt. -/
def Part.beginBlind (k : RecId) (r : RcuId) (p : Part) : Part :=
  let a : Attempt := { target := .anyCell, cell := none, access := .limited, destination := .publicNumber,
                       attached := false, opsFailed := false }
  (p.modCall k fun c => { c with blindTried := true, attempt := some a, state := .attaching }).offer r .attachAny

/-- R113: the round of a panel record ends. -/
def CallRec.endRound (c : CallRec) : CallRec :=
  let n := satInc 255 c.rounds
  if n < 3 then { c with rounds := n, step := .start }
  else { c with rounds := n, step := .paused, pauseTimer := some Config.pauseTime }

/-- R119: the first round of the TEST record ends. -/
def Part.endTestRound (p : Part) : Part :=
  let result : TestResult := if p.test.dialled then .noAnswer else .noService
  ((p.modCall .test fun c => { c with rounds := satInc 255 c.rounds }).writeTest result).enterClearing .test

/-- R113, with R102's skips: the cursor has passed the plan. -/
def Part.endRound (k : RecId) (p : Part) : Part :=
  let q := p.modCall k fun c => { c with cursor := max c.cursor c.plan.length }
  match k with
  | .test => q.endTestRound
  | .sideA => q.modCall .sideA CallRec.endRound
  | .sideB => q.modCall .sideB CallRec.endRound

/-- R102, R118: the next try begins, or the round ends. -/
def Part.beginNext (g : Settings) (k : RecId) (r : RcuId) (p : Part) : Part :=
  let c := p.call k
  if c.plan = [] ∧ c.blindTried = false then
    if k = .test then (p.modCall .test fun c => { c with blindTried := true }).endRound .test
    else p.beginBlind k r
  else
    match p.nextTry g k with
    | some x => p.beginTry g k r x
    | none => p.endRound k

/-! ## Attaching -/

/-- R104, R105, R164: a DIAL is offered on the attachment. -/
def Part.offerDial (g : Settings) (k : RecId) (r : RcuId) (p : Part) : Part :=
  match (p.call k).attempt with
  | none => p
  | some a =>
    let d := p.destinationFor g k a.access a.opsFailed
    if k = .test ∧ g.opsDigits = [] then p.failTry k .dialRejected
    else
      (p.modCall k fun c => { c with attempt := some { a with destination := d }, dialled := true,
                                     state := .dialling }).offer r (.dial (g.digits d))

/-- R108: a blind acceptance names its cell, which becomes the plan's one item. -/
def Part.blindAccepted (g : Settings) (k : RecId) (a : Attempt) (cell : CarrierKey) (kind : AccessKind)
    (barring : Barring) (p : Part) : Part :=
  let q := p.insertBlind g cell kind barring
  match q.placed cell.key with
  | some x =>
    q.modCall k fun c => { c with plan := [planItem g x], cursor := 0,
                                  attempt := some { a with target := .slot x.1, cell := some cell, attached := true } }
  | none => q.modCall k fun c => { c with attempt := some { a with cell := some cell, attached := true } }

/-- R105, R108: ACCEPTED. -/
def Part.attachAccepted (g : Settings) (k : RecId) (r : RcuId)
    (report : Option (CarrierKey × AccessKind × Barring)) (p : Part) : Part :=
  match (p.call k).attempt with
  | none => p
  | some a =>
    match a.target, report with
    | .anyCell, some x => (p.blindAccepted g k a x.1 x.2.1 x.2.2).offerDial g k r
    | _, _ =>
      ((p.modTarget a.target Entry.accepted).modCall k fun c =>
        { c with attempt := some { a with attached := true } }).offerDial g k r

/-- R107: a try fails at its attach. -/
def Part.attachFails (k : RecId) (cause : Cause) (effect : Entry → Entry) (p : Part) : Part :=
  match (p.call k).attempt with
  | none => p
  | some a => (p.modTarget a.target effect).failTry k cause

/-- R106, R118: a refusal of a FULL attach turns a panel record's try to LIMITED. Any other is a failed try. -/
def Part.attachRefused (k : RecId) (r : RcuId) (cause : Cause) (effect : Access → Entry → Entry)
    (p : Part) : Part :=
  match (p.call k).attempt with
  | none => p
  | some a =>
    match a.access, k.side, a.cell with
    | .full, some _, some cell =>
      ((p.modTarget a.target (effect .full)).modCall k fun c =>
        { c with lastCause := cause,
                 attempt := some { a with access := .limited, destination := .publicNumber } }).offer r
        (.attach cell.key .limited)
    | _, _, _ => p.attachFails k cause (effect a.access)

/-! ## Dialling and ringing -/

/-- R109, R111, R114: the far end has answered. The record offers SEND_NOTE. -/
def Part.announce (g : Settings) (k : RecId) (r : RcuId) (p : Part) : Part :=
  match (p.call k).attempt with
  | none => p
  | some a =>
    (p.modCall k fun c => { c with answeredDest := some a.destination, state := .announcing }).offer r
      (.sendNote (p.siteNote g k a.access))

/-- R110, R111: the dial to OPS of a panel record has failed. The record releases, and then dials PUBLIC
(Reaction.dialPublic). -/
def Part.opsFails (k : RecId) (r : RcuId) (cause : Cause) (a : Attempt) (p : Part) : Part :=
  (p.modCall k fun c => { c with lastCause := cause, state := .dialling,
                                 attempt := some { a with opsFailed := true } }).offer r .release

/-- R110, R118: DIAL_REJECTED. -/
def Part.dialRejected (k : RecId) (r : RcuId) (p : Part) : Part :=
  match (p.call k).attempt with
  | none => p
  | some a =>
    match a.destination, k.side with
    | .ops, some _ => p.opsFails k r .dialRejected a
    | .ops, none => p.failTry k .dialRejected
    | .publicNumber, _ => (p.modTarget a.target Entry.failed).failTry k .dialRejected

/-- R111: NO_ANSWER. What follows the RELEASE is releaseDone and Reaction.dialPublic. -/
def Part.noAnswer (k : RecId) (r : RcuId) (p : Part) : Part :=
  match (p.call k).attempt with
  | none => p
  | some a =>
    match a.destination, k.side with
    | .ops, some _ => p.opsFails k r .noAnswer a
    | _, _ => (p.modCall k fun c => { c with lastCause := .noAnswer, state := .dialling }).offer r .release

/-- R111, R118: the RELEASE of a DIALLING record is done. A try that turns to PUBLIC goes on, any other fails
with the cause it has. -/
def Part.releaseDone (k : RecId) (p : Part) : Part :=
  match (p.call k).state, (p.call k).attempt with
  | .dialling, some a =>
    if a.destination = .ops ∧ a.opsFailed then p else p.failTry k (p.call k).lastCause
  | _, _ => p

/-! ## Announcing and connection -/

/-- R116, steps 1 to 6, with R38 and R131: a panel record enters CONNECTED. -/
def Part.connect (k : RecId) (d : Side) (r : RcuId) (a : Attempt) (p : Part) : Part :=
  let q := (p.setVoice d (some r)).modCall k fun c =>
    { c with state := .connected, segments := satInc 15 c.segments,
             fullConnection := c.fullConnection || a.access == .full, regain := false, regainTimer := none,
             fadeCount := 0, fading := false }
  let pushed := match a.cell with
    | some cell => q.pushStack cell
    | none => q
  pushed.startContinuous r (a.cell.map (·.key))

/-- R115, R118, R119: the note has an outcome. The cause is set only where it was not delivered. -/
def Part.noteEnds (k : RecId) (r : RcuId) (delivered : Bool) (p : Part) : Part :=
  let q := if delivered then p else p.modCall k fun c => { c with lastCause := .noteFailed }
  match k.side, (p.call k).attempt with
  | some d, some a => q.connect k d r a
  | some _, none => q
  | none, _ => (q.writeTest (if delivered then .passed else .noteFailed)).enterClearing k

/-- R141: the ANSWER of a call-back is done. -/
def Part.callbackAnswered (k : RecId) (r : RcuId) (p : Part) : Part :=
  match k.side, (p.call k).pagedCell with
  | some d, some cell =>
    let target := match p.slotOf cell.key with
      | some i => Target.slot i
      | none => .noTarget
    let a : Attempt := { target := target, cell := some cell, access := .full, destination := .ops,
                         attached := true, opsFailed := false }
    (p.modCall k fun c => { c with attempt := some a, answeredDest := some .ops, answerInHand := false,
                                   pagedCell := none }).connect k d r a
  | _, _ => p

/-! ## Drops (R132, R133, R118) -/

/-- R132: steps 2 to 5 and 7 on the record. -/
def CallRec.dropped (g : Settings) (c : CallRec) : CallRec :=
  { c with lastCause := .linkLost, regain := true, droppedKey := (c.attempt.bind (·.cell)).map (·.key),
           attempt := none, rounds := 0, state := .seeking, step := .next,
           regainTimer := some (g.regainWindow * Config.second) }

/-- R132: a drop. The first try of the regain round is Reaction.seekNext. -/
def Part.drop (g : Settings) (k : RecId) (r : RcuId) (p : Part) : Part :=
  let q := if (p.call k).state = .connected then p.leaveConnected k r else p
  (q.modCall k (CallRec.dropped g)).buildRegainPlan g k

/-- R132, R118: LINK_LOST is told to a record. -/
def Part.recordLinkLost (g : Settings) (k : RecId) (r : RcuId) (p : Part) : Part :=
  match (p.call k).state, k.side with
  | .ringing, some _ => p.drop g k r
  | .announcing, some _ => p.drop g k r
  | .connected, some _ => p.drop g k r
  | .ringing, none => p.failTry k .linkLost
  | .announcing, none => p.noteEnds k r false
  | _, _ => p

/-- R133, R118: FAR_RELEASE is told to a record. -/
def Part.recordFarRelease (g : Settings) (k : RecId) (r : RcuId) (p : Part) : Part :=
  match (p.call k).state with
  | .connected =>
    ((p.leaveConnected k r).modCall k fun c => { c with lastCause := .noCause }).enterClearing k
  | _ => p.recordLinkLost g k r

/-! ## Outcomes told to a record (R58 step 4, R62 step 1) -/

/-- An outcome of an order the record issued. -/
def Part.recordTakes (g : Settings) (k : RecId) (r : RcuId) (o : Order) (x : ModuleOutcome)
    (p : Part) : Part :=
  match (p.call k).state, o, x with
  | .attaching, .attach _ _, .accepted report => p.attachAccepted g k r report
  | .attaching, .attachAny, .accepted report => p.attachAccepted g k r report
  | .attaching, _, .rejectedBarred => p.attachRefused k r .barred Entry.barredAt
  | .attaching, _, .rejectedSubscription =>
    p.attachRefused k r .subscription fun _ e => e.subscriptionRefused
  | .attaching, _, .rejectedCongested => p.attachFails k .congested Entry.failed
  | .attaching, _, .noCell => p.attachFails k .noCell Entry.notFound
  | .dialling, .dial _, .alerting => p.modCall k fun c => { c with state := .ringing }
  | .dialling, .dial _, .answered => p.announce g k r
  | .dialling, .dial _, .dialRejected => p.dialRejected k r
  | .dialling, .release, .done => p.releaseDone k
  | .announcing, .sendNote _, .delivered => p.noteEnds k r true
  | .announcing, .sendNote _, .notDelivered => p.noteEnds k r false
  | .alertingIn, .answer, .done => p.callbackAnswered k r
  | _, _, _ => p

/-- An outcome of the window's CAMP or REJECT (R139, R140). The next CAMP is Reaction.camp. -/
def Part.windowTakes (g : Settings) (o : Order) (x : ModuleOutcome) (p : Part) : Part :=
  match o, x with
  | .camp _, .camped => { p with window := p.window.map fun w => { w with state := .camped } }
  | .camp _, .noCell => p.campFailure g
  | _, _ => p

/-- A sweep context's outcome (R34, R50). -/
def Part.sweepTakes (g : Settings) (r : RcuId) (x : ModuleOutcome) (p : Part) : Part :=
  match x with
  | .heard carrier kind barring => p.sweepHeard g r carrier kind barring
  | .notHeard => p.sweepNotHeard r
  | _ => p

/-- R34: SETTLED. The conversion and the gate are requested. -/
def Part.takeSettled (r : RcuId) (p : Part) : Part :=
  let m := (p.radio r).measurement
  if m.phase = .settling then
    (p.requestConversion (.rcu r)).modRadio r fun x =>
      { x with measurement := { m with phase := .sampling }, gate := GateCounter.request m.gate false }
  else p

/-- R58 step 4: an outcome is reported to the holder. MEASURE and LISTEN are the sweep context's. -/
def Part.report (g : Settings) (r : RcuId) (o : Order) (x : ModuleOutcome) (p : Part) : Part :=
  match o with
  | .measure _ => p.takeSettled r
  | .listen _ => p.sweepTakes g r x
  | _ =>
    match (p.radio r).holder with
    | some .sideA => p.recordTakes g .sideA r o x
    | some .sideB => p.recordTakes g .sideB r o x
    | some .test => p.recordTakes g .test r o x
    | some .window => p.windowTakes g o x
    | some .survey => p
    | none => p

end Sys2Proof.Machine
end

