-- ==== Sys2Proof/Machine/Faults.lean ====
section
/-! DEFINITION. Module faults, recovery, revocation and the no-radio condition (04_radio_channel_units.md section
4.5, 05_sharing_the_radios.md section 5.6). -/

namespace Sys2Proof.Machine

/-! ## Revocation (R91, R122, R134) -/

/-- R122: what a record loses with its RCU. -/
def CallRec.revoked (c : CallRec) : CallRec :=
  { c with attempt := none, step := .start, pauseTimer := none, lastCause := .moduleFault, state := .queued }

/-- R122. -/
def Part.revokeSeeker (k : RecId) (p : Part) : Part := (p.emptyPlan k).modCall k CallRec.revoked

/-- R134, CONNECTED: steps 2 to 4, 6 and 7 on the record. -/
def CallRec.revokedConnected (g : Settings) (c : CallRec) : CallRec :=
  { c with fadeCount := 0, fading := false, droppedKey := (c.attempt.bind (·.cell)).map (·.key),
           attempt := none, lastCause := .moduleFault, regain := true, rounds := 0,
           regainTimer := some (g.regainWindow * Config.second), state := .queued }

/-- R134, CONNECTED. -/
def Part.revokeConnected (g : Settings) (k : RecId) (p : Part) : Part :=
  let q := match k.side with
    | some d => p.setVoice d none
    | none => p
  (q.emptyPlan k).modCall k (CallRec.revokedConnected g)

/-- R91: the requeue of a record, resolved as a claim. -/
def Part.requeue (g : Settings) (k : RecId) (p : Part) : Part :=
  p.claim g { claimant := k.holder, requeued := true }

/-- R122, R134: in CLEARING and ALERTING_IN the requeue is withdrawn if it waits, or released if it was granted,
and the record goes IDLE (log 13). -/
def Part.requeueUndone (g : Settings) (k : RecId) (p : Part) : Part :=
  let asked := (p.modCall k fun c => { c with lastCause := .moduleFault }).requeue g k
  let given := (asked.leaveQueue k.holder)
  let freed := match given.callRcu k with
    | some r => given.releaseRcu r
    | none => given
  freed.recordIdle k

/-- R91: a record has lost its RCU to a fault. The RCU is already unassigned. -/
def Part.recordRevoked (g : Settings) (k : RecId) (p : Part) : Part :=
  let q := p.closeLent k
  match (q.call k).state with
  | .seeking => (q.revokeSeeker k).requeue g k
  | .attaching => (q.revokeSeeker k).requeue g k
  | .dialling => (q.revokeSeeker k).requeue g k
  | .ringing => (q.revokeSeeker k).requeue g k
  | .announcing => (q.revokeSeeker k).requeue g k
  | .connected => (q.revokeConnected g k).requeue g k
  | .clearing => q.requeueUndone g k
  | .alertingIn => q.requeueUndone g k
  | .idle => q
  | .queued => q

/-- R91: the old holder of a faulted RCU is told. -/
def Part.tellRevoked (g : Settings) (old : Option Holder) (r : RcuId) (p : Part) : Part :=
  match old with
  | some .sideA => (p.removeSweep r).recordRevoked g .sideA
  | some .sideB => (p.removeSweep r).recordRevoked g .sideB
  | some .test => (p.removeSweep r).recordRevoked g .test
  | some .survey => p.surveyLosesRcu g r
  | some .window => { p with window := none }
  | none => p

/-! ## The fault (R76) -/

/-- R76, step 1, on the condition, the count and the mark. -/
def Radio.faulted (x : Radio) : Radio :=
  let n := satInc 3 x.faultCount
  if n = 3 then { x with faultCount := n, condition := .disabled, proving := false, holder := none }
  else { x with faultCount := n, condition := .faulted, proving := false, holder := none,
                recoveryTimer := some Config.recoveryTime }

/-- R76: a module fault. -/
def Part.moduleFault (g : Settings) (r : RcuId) (p : Part) : Part :=
  (((p.supplyOff r).modRadio r Radio.faulted).tellRevoked g (p.radio r).holder r).raiseRadioChanged

/-- R75, R53: a READY that is not awaited. A sweep whose item ended at that instant has not begun its next one (log
28). No limit can expire at the instant of the sending (R57), so the expiries are plain faults. -/
def Part.readyFaults (g : Settings) (r : RcuId) (p : Part) : Part := (p.unbeginItem r).moduleFault g r

/-! ## Recovery (R74, R78, R79) -/

/-- R74: an RCU that leaves FAULTED or DISABLED would be the reserve. -/
def Part.reserveOnReturn (p : Part) (r : RcuId) : Bool :=
  match r with
  | .rcu0 => true
  | .rcu1 => p.radio0.broken

/-- R78, R79: an RCU leaves FAULTED or DISABLED. The queue is served by Reaction.serve. -/
def Part.returnRadio (r : RcuId) (p : Part) : Part :=
  let stays := p.power.level != .shed || p.reserveOnReturn r
  (p.modRadio r fun x =>
    let y := { x with recoveryTimer := none }
    if stays then y.boot else { y with condition := .off }).raiseRadioChanged

/-- R79: the result of RESTORE_RADIO for an RCU. -/
def Part.restoreResult (r : RcuId) (p : Part) : CommandResult :=
  if (p.radio r).broken then .accepted else .refusedState

/-- R79. -/
def Part.restoreRadio (r : RcuId) (p : Part) : Part :=
  if (p.radio r).broken then
    (p.modRadio r fun x => { x with faultCount := 0, proving := false }).returnRadio r
  else p

/-! ## Notices from a module (R65, R66) -/

/-- R65, R69: READY. -/
def Part.takeReady (g : Settings) (r : RcuId) (p : Part) : Part :=
  match (p.radio r).condition with
  | .booting => p.modRadio r fun x => { x with readyTimer := none, condition := .awake, proving := true }
  | .doze => p.readyFaults g r
  | .waking => p.readyFaults g r
  | .awake => p.readyFaults g r
  | .camped => p.readyFaults g r
  | .inCall => p.readyFaults g r
  | .off => p
  | .faulted => p
  | .disabled => p

/-- R66: the one report the holder gets at a LINK_LOST or FAR_RELEASE. -/
inductive LossReport where
  | notice
  | releaseDone
  deriving DecidableEq, Repr

/-- R66: the slot after the loss, and which report the holder gets. -/
def Pending.atLoss (q : Pending) : Option Pending × LossReport :=
  if q.phase = .retired then (some q, .notice)
  else
    match q.order, q.issuer with
    | .sendNote _, _ => (none, .notice)
    | .release, .holder => (none, .releaseDone)
    | .release, .rcu => (none, .notice)
    | _, _ => (some q, .notice)

/-- R65, R66: LINK_LOST or FAR_RELEASE. The RCU goes AWAKE, and the holder gets one report. -/
def Part.takeLoss (g : Settings) (far : Bool) (r : RcuId) (p : Part) : Part :=
  if (p.radio r).condition = .inCall then
    let loss := match (p.radio r).slot with
      | some q => q.atLoss
      | none => (none, .notice)
    let q := (p.leaveInCall r).modRadio r fun x => { x with slot := loss.1 }
    match loss.2, ((p.radio r).holder).bind Holder.record with
    | .releaseDone, some k => q.recordTakes g k r .release .done
    | .notice, some k => if far then q.recordFarRelease g k r else q.recordLinkLost g k r
    | _, none => q
  else p

/-- R65, R111: the ANSWERED notice. -/
def Part.takeAnswered (g : Settings) (r : RcuId) (p : Part) : Part :=
  let x := p.radio r
  if x.condition = .inCall ∧ x.answerTimer.isSome then
    let q := p.setRadio r { x with answerTimer := none }
    match x.holder.bind Holder.record with
    | some k => if (q.call k).state = .ringing then q.announce g k r else q
    | none => q
  else p

/-- R65, R140: PAGED. -/
def Part.takePaged (r : RcuId) (p : Part) : Part :=
  let x := p.radio r
  if x.condition = .camped then
    let q := p.setRadio r { x with condition := .awake }
    if x.holder = some .window then q.windowPaged r else q
  else p

/-- R65, R139: CELL_LOST. -/
def Part.takeCellLost (g : Settings) (r : RcuId) (p : Part) : Part :=
  let x := p.radio r
  if x.condition = .camped then
    let q := p.setRadio r { x with condition := .awake }
    if x.holder = some .window then q.campFailure g else q
  else p

/-- R65: a notice. -/
def Part.takeNotice (g : Settings) (n : Notice) (r : RcuId) (p : Part) : Part :=
  match n with
  | .ready => p.takeReady g r
  | .linkLost => p.takeLoss g false r
  | .farRelease => p.takeLoss g true r
  | .answered => p.takeAnswered g r
  | .paged => p.takePaged r
  | .cellLost => p.takeCellLost g r

/-! ## Answers to orders (R57, R58, R61) -/

/-- R57: an acknowledgement of the order. -/
def Pending.orderAcked (q : Pending) (tag : Nat) : Option Pending :=
  if q.phase = .ackWait ∧ q.tag = tag then
    some { q with phase := .outcomeWait, limit := some q.order.outcomeLimit }
  else none

/-- R61: an acknowledgement of the CANCEL. -/
def Pending.cancelAcked (q : Pending) (tag : Nat) : Option Pending :=
  match q.cancel with
  | some c =>
    if c.phase = .ackWait ∧ c.tag = tag then
      some { q with cancel := some { c with phase := .doneWait, limit := Config.cancelLimit } }
    else none
  | none => none

/-- R57, R61: an acknowledgement. Any other is discarded. -/
def Radio.acknowledge (tag : Nat) (x : Radio) : Radio :=
  match x.slot with
  | some q =>
    match (q.orderAcked tag).or (q.cancelAcked tag) with
    | some q' => { x with slot := some q' }
    | none => x
  | none => x

/-- R58: the outcome belongs to the pending order. -/
def Pending.takes (q : Pending) (tag : Nat) (x : ModuleOutcome) : Bool :=
  q.tag == tag && q.phase != .retired && q.order.answeredBy x

/-- R67: ALERTING starts the answer timer. -/
def Part.startAnswerTimer (g : Settings) (r : RcuId) (x : ModuleOutcome) (p : Part) : Part :=
  if x = .alerting ∧ (p.radio r).condition = .inCall then
    p.modRadio r fun y => { y with answerTimer := some (g.answerTimeout * Config.second) }
  else p

/-- R58: an outcome is taken. -/
def Part.takeOutcome (g : Settings) (r : RcuId) (q : Pending) (x : ModuleOutcome) (p : Part) : Part :=
  let emptied := p.modRadio r fun y => { y with slot := none }
  let changed := ((emptied.applyOutcome r q.order x).startAnswerTimer g r x).prove r
  match q.issuer with
  | .holder => changed.report g r q.order x
  | .rcu => changed

/-- R61: CANCEL_DONE. -/
def Part.takeCancelDone (r : RcuId) (q : Pending) (p : Part) : Part :=
  (p.modRadio r fun y =>
    let emptied := { y with slot := none }
    if q.order.needsRelease then emptied.send .release .rcu else emptied).prove r

/-- R58, R61: an outcome frame. -/
def Part.outcomeArrives (g : Settings) (r : RcuId) (x : ModuleOutcome) (tag : Nat) (p : Part) : Part :=
  match (p.radio r).slot with
  | some q =>
    if x = .cancelDone then
      if q.cancel.any (·.tag == tag) then p.takeCancelDone r q else p
    else if q.takes tag x then p.takeOutcome g r q x
    else p
  | none => p

/-- A frame that has passed the tests of R55 and R188. -/
def Part.takeFrame (g : Settings) (r : RcuId) (f : ModuleFrame) (p : Part) : Part :=
  match f with
  | .acknowledgement tag => p.modRadio r (Radio.acknowledge tag)
  | .outcome x tag => p.outcomeArrives g r x tag
  | .notice n => p.takeNotice g n r

/-! ## Limits (R57, R61, R62, R75) -/

/-- An acknowledgement limit runs. -/
def Pending.ackRuns (q : Pending) : Bool :=
  q.phase == .ackWait || q.cancel.any (·.phase == .ackWait)

/-- The outcome limit of an order whose expiry is a failure runs. -/
def Pending.failureRuns (q : Pending) : Bool := q.phase == .outcomeWait && q.order.failsSoft

/-- An outcome limit whose expiry is a fault runs. -/
def Pending.faultRuns (q : Pending) : Bool :=
  (q.phase == .outcomeWait && !q.order.failsSoft) || q.cancel.any (·.phase == .doneWait)

/-- R107: the substitute ATTACH_TIMEOUT, told to the holder. -/
def Part.attachTimeout (r : RcuId) (p : Part) : Part :=
  match ((p.radio r).holder).bind Holder.record with
  | some k =>
    if (p.call k).state = .attaching then p.attachFails k .attachTimeout Entry.failed else p
  | none => p

/-- R62, step 1: the substitute outcomes of Table 4-4. -/
def Part.reportSubstitute (g : Settings) (r : RcuId) (o : Order) (p : Part) : Part :=
  match o with
  | .listen _ => p.report g r o .notHeard
  | .attach _ _ => p.attachTimeout r
  | .attachAny => p.attachTimeout r
  | .dial _ => p.report g r o .dialRejected
  | .sendNote _ => p.report g r o .notDelivered
  | .reject => p.report g r o .done
  | .release => p.report g r o .done
  | .wake => p
  | .doze => p
  | .measure _ => p
  | .answer => p
  | .camp _ => p

/-- R62: a failure expiry. An RCU's own RELEASE is treated as done. -/
def Part.failureExpires (g : Settings) (r : RcuId) (q : Pending) (p : Part) : Part :=
  match q.issuer with
  | .holder => ((p.reportSubstitute g r q.order).applyOutcome r q.order .done).abandon r
  | .rcu => (p.modRadio r fun x => { x with slot := none }).applyOutcome r q.order .done

end Sys2Proof.Machine
end

