-- ==== Sys2Proof/Machine/Power.lean ====
section
/-! DEFINITION. The Power Monitor: samples, levels, resets and the release
(10_battery_supervision_and_start_up.md). -/

namespace Sys2Proof.Machine

/-! ## Levels (R176, R177) -/

/-- R176, Table 10-3: the target of a sample. -/
def sampleTarget (g : Settings) (level : PowerLevel) (b : Nat) : Option PowerLevel :=
  match level with
  | .normal => if b ≤ g.shedCode then some .shed else if b ≤ g.warnCode then some .warn else none
  | .warn => if b ≤ g.shedCode then some .shed else if g.warnCode + 2 ≤ b then some .normal else none
  | .shed =>
    if g.warnCode + 2 ≤ b then some .normal else if g.shedCode + 2 ≤ b then some .warn else none

/-- The levels from the top down. -/
def PowerLevel.depth : PowerLevel → Nat
  | .normal => 0
  | .warn => 1
  | .shed => 2

/-- R177: two targets lie on the same side of the level in force. -/
def sameDirection (level a b : PowerLevel) : Bool :=
  decide (level.depth < a.depth) == decide (level.depth < b.depth)

/-- The distance of a level from the level in force. -/
def PowerLevel.distance (level a : PowerLevel) : Nat :=
  (level.depth - a.depth) + (a.depth - level.depth)

/-- R177: the nearer of two targets. -/
def nearerLevel (level a b : PowerLevel) : PowerLevel :=
  if level.distance b < level.distance a then b else a

/-- R174 step 1, R176, R177: a battery code is taken. -/
def PowerMonitor.sample (g : Settings) (b : Nat) (m : PowerMonitor) : PowerMonitor :=
  let n := { m with battery := b }
  match sampleTarget g m.level b, m.pendingTarget with
  | none, _ => { n with pendingTarget := none }
  | some t, none => { n with pendingTarget := some t }
  | some t, some u =>
    if sameDirection m.level t u then
      { n with level := nearerLevel m.level u t, pendingTarget := none }
    else { n with pendingTarget := some t }

/-- R179, Table 10-5: what a change of level does beside the notices. A free non-reserve RCU goes OFF, and the
queue is served at the leaving of SHED, by reactions. -/
def Part.levelChanged (g : Settings) (old : PowerLevel) (p : Part) : Part :=
  if p.power.level = .shed ∧ old ≠ .shed then (p.shedSweep g).closeWindow else p

/-- R174: the Power Monitor takes a battery code. -/
def Part.takeBattery (g : Settings) (b : Nat) (p : Part) : Part :=
  Part.levelChanged g p.power.level { p with power := p.power.sample g b }

/-! ## Level codes delivered to an RCU (R34, R36) -/

/-- R37: the fade test. -/
def CallRec.fadeTest (q : Nat) (c : CallRec) : CallRec :=
  if q < 25 then { c with fadeCount := satInc 3 c.fadeCount, fading := c.fading || decide (2 ≤ c.fadeCount) }
  else { c with fadeCount := 0, fading := false }

/-- R126: the pair of a monitoring window, for a CONNECTED record. -/
def Part.takeWindow (k : RecId) (key : Key) (l q : Nat) (p : Part) : Part :=
  if (p.call k).state = .connected then
    let written := match p.slotOf key with
      | some i => p.modEntry i (Entry.monitored l q)
      | none => p
    written.modCall k (CallRec.fadeTest q)
  else p

/-- R36: in continuous mode a level code completes the newest window. -/
def Part.monitorCode (r : RcuId) (code : Nat) (p : Part) : Part :=
  let m := (p.radio r).measurement
  match m.count, m.key with
  | some count, some key =>
    let cleared := p.modRadio r fun x => { x with measurement := { m with code := none, count := none } }
    match ((p.radio r).holder).bind Holder.record with
    | some k => cleared.takeWindow k key code (qualityOf count m.gate)
    | none => cleared
  | _, _ => p

/-- R34, R36: a level code reaches its RCU. -/
def Part.takeLevelCode (g : Settings) (r : RcuId) (code : Nat) (p : Part) : Part :=
  let m := (p.radio r).measurement
  if m.phase = .sampling then
    (p.modRadio r fun x => { x with measurement := { m with code := some code } }).formPair g r
  else if m.requester = some .callManager then p.monitorCode r code
  else p

/-- R27: a result is delivered to its source. -/
def Part.deliver (g : Settings) (src : Source) (code : Nat) (p : Part) : Part :=
  match src with
  | .rcu r => p.takeLevelCode g r code
  | .battery => p.takeBattery g code

/-! ## Resets (R180 to R185) -/

/-- R182: the record and the Site Settings at the beginning of a brown-out or cabinet reset. -/
def Part.resetFor (cause : ResetCause) (supplyLow : Bool) (cabinetHold : Timer) (p : Part) : Part :=
  Part.held p.lines (PowerMonitor.held supplyLow cabinetHold cause (satInc 255 p.power.resetCount))

/-- R184, R156: every block is in its hold. The inputs stay, and so does the queue of commands. -/
def State.hold (p : Part) (g : Settings) (s : State) : State :=
  { part := p, settings := g, panelA := PanelPort.held s.panelA.tx.select,
    panelB := PanelPort.held s.panelB.tx.select, cabinet := CabinetPort.held s.cabinet.tx.select,
    pending := s.pending }

/-- R181: a power-on reset begins. -/
def State.beginPowerOn (s : State) : State :=
  s.hold (Part.held s.part.lines (PowerMonitor.held true none .powerOn 0)) Settings.default

/-- The mark of an input asserted again before its deassertion is taken (R186). -/
def PowerMonitor.assertedAgain (again : Bool) (m : PowerMonitor) : PowerMonitor := { m with reasserted := again }

/-- R180, R183: a brown-out reset begins. A cabinet hold in progress runs on beside it. R182, R186: one that begins
while the supply is low already writes the record again, and overtakes the deassertion of that instant (log 33). -/
def State.beginBrownOut (s : State) : State :=
  let held := s.part.resetFor .brownOut true s.part.power.cabinetHold
  s.hold { held with power := held.power.assertedAgain s.part.power.supplyLow } Settings.default

/-- R183: a cabinet reset begins. -/
def State.beginCabinetReset (s : State) : State :=
  s.hold (s.part.resetFor .cabinet false (some Config.cabinetHold)) s.settings

/-- R185, items 1 to 5: the inner blocks at the release. -/
def Part.release (g : Settings) (p : Part) : Part :=
  let started : Part :=
    { p with frameClock := some Config.frame, secondTimer := some Config.second,
             ageTimer := some (g.agePeriod * Config.second),
             survey := { p.survey with timer := some (g.surveyTime p.power.level) },
             power := { p.power with sampleTimer := some Config.samplePeriod },
             radio0 := p.radio0.boot, radio1 := p.radio1.boot,
             notices := { p.notices with resetOccurred := true } }
  let sampling := started.requestConversion .battery
  if g.listHasItem then sampling.requestSweep g .full else sampling

/-- R156: a port at the release. -/
def Transaction.release (t : Transaction) : Transaction :=
  { t with state := if t.select then .waitDeselect else .deselected }

/-- R156: a panel port at the release. -/
def PanelPort.release (x : PanelPort) : PanelPort :=
  { x with tx := x.tx.release, notices := { x.notices with stateChanged := true } }

/-- R185: the release. -/
def State.release (s : State) : State :=
  { s with part := s.part.release s.settings, panelA := s.panelA.release, panelB := s.panelB.release,
           cabinet := { s.cabinet with tx := s.cabinet.tx.release } }

/-- R183: the part is released at the event at which its last hold cause ends. -/
def State.releaseIfFree (s : State) : State := if s.isHeld then s else s.release

end Sys2Proof.Machine
end

