-- ==== Sys2Proof/Machine/Reactions.lean ====
section
/-! DEFINITION. One event of the whole part. What the rules tie to a condition (an RCU is ready, a slot is EMPTY, a
grantable RCU exists) is a reaction: after the command's own effect the reactions run, the first of the list that
is enabled first, until none is enabled (log 11). Then the ports compare what they report (R151, R152, R155). -/

namespace Sys2Proof.Machine

/-! ## Reactions -/

inductive Reaction where
  /-- R119: a TEST record QUEUED while the no-radio condition holds. -/
  | testNoRadio
  /-- R71: an RCU in DOZE with an EMPTY slot sends WAKE, if it is assigned or its bring-up was begun. -/
  | wake (r : RcuId)
  /-- R64, step 3: an RCU left IN_CALL by its last holder sends RELEASE. -/
  | releaseCall (r : RcuId)
  /-- R90: a panel claimant that heads the queue preempts a lower holder. -/
  | preemptWaiting
  /-- R85: the head of the queue is served. -/
  | serve
  /-- R54: an ENDING sweep ends when its RCU's slot is EMPTY. -/
  | endSweep (r : RcuId)
  /-- R121: a CLEARING record releases a call when the slot is EMPTY. -/
  | clearingRelease (k : RecId)
  /-- R121, R136: a CLEARING record leaves. -/
  | leaveClearing (k : RecId)
  /-- R110, R111: the DIAL to PUBLIC after a failed dial to OPS. -/
  | dialPublic (k : RecId)
  /-- R46 to R50: the next item of a sweep, at the event that ends the last one. What R53 makes of an
  abandonment at that instant is Part.unbeginItem's (log 28). -/
  | sweepItem (r : RcuId)
  /-- R99, R100: a round begins. -/
  | seekStart (k : RecId)
  /-- R99, R102: the next try, or the end of the round. -/
  | seekNext (k : RecId)
  /-- R139: a window in CAMPING offers CAMP. -/
  | camp
  /-- R74: a free non-reserve RCU goes OFF in SHED. R71 and R69 have an RCU whose assignment ends in BOOTING await its
  READY first. That it goes OFF when it becomes free, in BOOTING too, is the model's choice (log 36). -/
  | goOff (r : RcuId)
  deriving DecidableEq, Repr

/-- The order in which reactions are taken. That a WAKE which is due stands before goOff, so that an unassigned
non-reserve RCU in SHED goes on with its bring-up at the DONE of the DOZE in flight (R71) and goes OFF (R74) only when
that has ended, is the model's choice (log 38). -/
def allReactions : List Reaction :=
  [.testNoRadio, .wake .rcu0, .wake .rcu1, .releaseCall .rcu0, .releaseCall .rcu1, .preemptWaiting, .serve,
    .endSweep .rcu0, .endSweep .rcu1, .clearingRelease .sideA, .clearingRelease .sideB, .clearingRelease .test,
    .leaveClearing .sideA, .leaveClearing .sideB, .leaveClearing .test, .dialPublic .sideA, .dialPublic .sideB,
    .sweepItem .rcu0, .sweepItem .rcu1, .seekStart .sideA, .seekStart .sideB, .seekStart .test,
    .seekNext .sideA, .seekNext .sideB, .seekNext .test, .camp, .goOff .rcu0, .goOff .rcu1]

/-- IN_CALL with an EMPTY slot. -/
def Radio.idleInCall (x : Radio) : Bool := x.condition == .inCall && x.slot.isNone

/-- R64, R121: a record in SEEKING has no call of its own, nor one in CLEARING with no attempt. -/
def CallRec.hasNoCall (c : CallRec) : Bool := c.state == .seeking || (c.state == .clearing && c.attempt.isNone)

/-- R64: the call an RCU is in is not its holder's. The RCU then sends the RELEASE as its own, where a CLEARING
holder could offer it too (log 30). -/
def Part.strangersCall (p : Part) (h : Option Holder) : Bool :=
  match h with
  | none => true
  | some .survey => true
  | some .window => true
  | some .sideA => p.sideA.hasNoCall
  | some .sideB => p.sideB.hasNoCall
  | some .test => p.test.hasNoCall

/-- R121: the slot of a CLEARING record's RCU is EMPTY and it is not IN_CALL. -/
def Radio.cleared (x : Radio) : Bool := x.slot.isNone && x.condition != .inCall

/-- R99: a SEEKING record at a seek step, with its RCU ready. -/
def Part.seeks (p : Part) (k : RecId) (step : SeekStep) : Bool :=
  (p.call k).state == .seeking && (p.call k).step == step && (p.callRcu k).any p.ready

/-- R110, R111: OPS has failed on the attempt in hand, and the RCU is ready for the DIAL to PUBLIC. -/
def Part.turnsPublic (p : Part) (k : RecId) : Bool :=
  (p.call k).state == .dialling && (p.callRcu k).any p.ready &&
    (p.call k).attempt.any fun a => a.opsFailed && a.destination == .ops

/-- The head of the claim queue is of the panel class. -/
def Part.panelHeads (p : Part) : Bool := p.claims.head?.any (·.claimant.isPanel)

def Reaction.enabled (p : Part) : Reaction → Bool
  | .testNoRadio => p.test.state == .queued && p.noRadio
  | .wake r =>
    ((p.radio r).holder.isSome || (p.radio r).wakeDue) && (p.radio r).condition == .doze && (p.radio r).slot.isNone
  | .releaseCall r => (p.radio r).idleInCall && p.strangersCall (p.radio r).holder
  | .preemptWaiting => p.panelHeads && p.victimRcu.isSome
  | .serve => p.claims.head?.isSome && p.grantNow.isSome
  | .endSweep r => (p.radio r).sweep.any (·.state == .ending) && (p.radio r).slot.isNone
  | .clearingRelease k =>
    (p.call k).state == .clearing && (p.callRcu k).any fun r => (p.radio r).idleInCall
  | .leaveClearing k =>
    (p.call k).state == .clearing && (p.callRcu k).all fun r => (p.radio r).cleared
  | .dialPublic k => p.turnsPublic k
  | .sweepItem r =>
    p.ready r && (p.radio r).sweep.any fun c => c.state == .running && c.phase == .none
  | .seekStart k => p.seeks k .start
  | .seekNext k => p.seeks k .next
  | .camp => p.window.any (·.state == .camping) && (p.rcuOf .window).any p.ready
  | .goOff r =>
    p.power.level == .shed && (p.radio r).isFree && (p.radio r).condition != .off && p.reserve != some r

/-- R119: NO_RADIO. -/
def Part.testWithoutRadio (p : Part) : Part := ((p.writeTest .noRadio).leaveQueue .test).recordIdle .test

/-- R90: the head of the queue preempts. -/
def Part.preemptForHead (g : Settings) (p : Part) : Part :=
  match p.claims.head?, p.victimRcu with
  | some w, some r => p.preempt g w.claimant r
  | _, _ => p

/-- R85: the head of the queue is granted. -/
def Part.serveHead (g : Settings) (p : Part) : Part :=
  match p.claims.head?, p.grantNow with
  | some w, some r => p.grant g w.claimant r
  | _, _ => p

/-- An action on the RCU of a record. -/
def Part.onRcu (k : RecId) (f : RcuId → Part → Part) (p : Part) : Part :=
  match p.callRcu k with
  | some r => f r p
  | none => p

/-- R139: CAMP goes out. -/
def Part.offerCamp (p : Part) : Part :=
  match p.window, p.rcuOf .window with
  | some w, some r => p.offer r (.camp w.campKey)
  | _, _ => p

def Reaction.run (g : Settings) (p : Part) : Reaction → Part
  | .testNoRadio => p.testWithoutRadio
  | .wake r => p.modRadio r Radio.wakeUp
  | .releaseCall r => p.modRadio r fun x => x.send .release .rcu
  | .preemptWaiting => p.preemptForHead g
  | .serve => p.serveHead g
  | .endSweep r => p.surveyReleases g r
  | .clearingRelease k => p.onRcu k fun r q => q.offer r .release
  | .leaveClearing k => p.leaveClearing g k
  | .dialPublic k => p.onRcu k fun r q => q.offerDial g k r
  | .sweepItem r => p.sweepAdvances g r
  | .seekStart k => p.onRcu k fun r q => q.beginRound g k r
  | .seekNext k => p.onRcu k fun r q => q.beginNext g k r
  | .camp => p.offerCamp
  | .goOff r => p.goOff r

/-- The reaction that is taken next. -/
def Part.nextReaction (p : Part) : Option Reaction := allReactions.find? fun x => x.enabled p

/-- Reactions run until none is enabled. -/
def Part.settle (g : Settings) : Nat → Part → Part
  | 0, p => p
  | n + 1, p =>
    match p.nextReaction with
    | some x => Part.settle g n (x.run g p)
    | none => p

/-! ## The end of an event -/

/-- R72: the doze timer runs while the RCU is AWAKE, unassigned and with an EMPTY slot. -/
def Radio.dozeWait (g : Settings) (x : Radio) : Radio :=
  if x.isReady && x.holder.isNone then
    match x.dozeTimer with
    | some _ => x
    | none => { x with dozeTimer := some (g.dozeDelay * Config.second) }
  else { x with dozeTimer := none }

def Part.dozeTimers (g : Settings) (p : Part) : Part :=
  { p with radio0 := p.radio0.dozeWait g, radio1 := p.radio1.dozeWait g }

/-- R151: what STATE_CHANGED watches. -/
def CallRec.differs (c d : CallRec) : Bool :=
  c.state != d.state || c.rounds != d.rounds || c.segments != d.segments || c.lastCause != d.lastCause

/-- R125: the record leaves IDLE, enters CONNECTED or goes IDLE. -/
def CallRec.callEvent (before after : CallRec) : Bool :=
  before.state != after.state &&
    (before.state == .idle || after.state == .connected || after.state == .idle)

/-- R151, R152, R155: a panel port at the end of an event. -/
def PanelPort.compare (before after : CallRec) (ind : Indication) (level : PowerLevel) (x : PanelPort) :
    PanelPort :=
  { x with
    notices := { stateChanged := x.notices.stateChanged || before.differs after,
                 indicationChanged := x.notices.indicationChanged || ind != x.reportedIndication,
                 commandResult := x.notices.commandResult,
                 powerChanged := x.notices.powerChanged || level != x.reportedLevel },
    reportedIndication := ind, reportedLevel := level }

/-- R125, R170: the cabinet notices that compare the ends of an event. -/
def Part.compareNotices (before : Part) (reported : PowerLevel) (after : Part) : Part :=
  { after with
    notices := { after.notices with
      powerChanged := after.notices.powerChanged || after.power.level != reported,
      callEvent := after.notices.callEvent || before.sideA.callEvent after.sideA ||
        before.sideB.callEvent after.sideB } }

/-- The inner blocks after an event, with the notices of the ports. -/
def State.endEvent (s : State) (after : Part) : State :=
  let p := after.dozeTimers s.settings
  { s with
    part := s.part.compareNotices s.cabinet.reportedLevel p,
    panelA := s.panelA.compare s.part.sideA p.sideA (p.indication .a) p.power.level,
    panelB := s.panelB.compare s.part.sideB p.sideB (p.indication .b) p.power.level,
    cabinet := { s.cabinet with reportedLevel := p.power.level } }

/-- What follows the effect of a command at its event: the reactions, and then the end of the event. -/
def State.conclude (s : State) (effect : Part) : State :=
  s.endEvent (effect.settle s.settings Config.settleFuel)

/-- One event of the inner blocks. While the part is HELD they take none (R184). -/
def State.event (f : Settings → Part → Part) (s : State) : State :=
  if s.isHeld then s else s.conclude (f s.settings s.part)

/-- An event of the inner blocks that takes place only under a condition on them. -/
def State.eventIf (ok : Part → Bool) (f : Settings → Part → Part) (s : State) : State :=
  if ok s.part then s.event f else s

end Sys2Proof.Machine
end

