-- ==== Sys2Proof/Machine/Link.lean ====
section
/-! DEFINITION. What arrives on a module link: the commands that are frames from a module, gaps and bad frames
(04_radio_channel_units.md, 11_link_formats.md section 11.1). A frame command is the bytes of that frame, taken by
the link receiver as they come (log 7). -/

namespace Sys2Proof.Machine

/-! ## Bytes -/

/-- R55, R188: the bytes of a complete frame. The last test of R55 is the supply line. -/
def Part.frameArrives (g : Settings) (r : RcuId) (bytes : List Byte) (p : Part) : Part :=
  match parseFrame bytes with
  | some f => if (p.radio r).supplyOn then p.takeFrame g r f else p
  | none => p

/-- R187: a byte arrives at a link receiver. While the part is HELD the RCU takes no frame (R80). -/
def State.linkByte (r : RcuId) (s : State) (b : Byte) : State :=
  if s.isHeld then s
  else
    let x := (s.part.radio r).receiver.byte b
    let s' := s.modPart fun p => p.modRadio r fun y => { y with receiver := x.1 }
    match x.2 with
    | some bytes => s'.event fun g p => p.frameArrives g r bytes
    | none => s'

/-- A run of bytes without a gap. -/
def State.receive (r : RcuId) (bytes : List Byte) (s : State) : State := bytes.foldl (State.linkByte r) s

/-- The code of a frame without parameters. -/
def State.receivePlain (r : RcuId) (kind tag : Byte) (s : State) : State :=
  s.receive r (linkFrame kind tag [])

/-! ## Acknowledgement and outcomes -/

/-- R57. -/
def execModuleAcknowledgement (r : RcuId) (tag : Byte) (s : State) :
    Host.Outcome State Fault Refusal := .next (s.receivePlain r 32 tag)

/-- R34. `level` stands on the module's level line from this event on (R28). -/
def execSettled (r : RcuId) (tag : Byte) (level : Microvolts) (s : State) :
    Host.Outcome State Fault Refusal :=
  .next ((s.modPart (Part.setLine (.rcu r) level)).receivePlain r 65 tag)

/-- The parameters of HEARD (Table 11-2). -/
def heardParams (carrier : BitVec 16) (kind barring : Byte) : List Byte :=
  bytes2 carrier.toNat ++ [kind, barring]

/-- R50. -/
def execHeard (r : RcuId) (tag : Byte) (carrier : BitVec 16) (kind barring : Byte) (s : State) :
    Host.Outcome State Fault Refusal :=
  .next (s.receive r (linkFrame 66 tag (heardParams carrier kind barring)))

/-- R50. -/
def execNotHeard (r : RcuId) (tag : Byte) (s : State) : Host.Outcome State Fault Refusal :=
  .next (s.receivePlain r 67 tag)

/-- The parameters of ACCEPTED (Table 11-2): none, or the report of a cell. -/
def acceptedParams : Option CellReport → List Byte
  | none => []
  | some c => c.band :: bytes2 c.channel.toNat ++ bytes2 c.carrier.toNat ++ [c.kind, c.barring]

/-- R105, R108. -/
def execAccepted (r : RcuId) (tag : Byte) (report : Option CellReport) (s : State) :
    Host.Outcome State Fault Refusal := .next (s.receive r (linkFrame 68 tag (acceptedParams report)))

/-- R106, R107. -/
def execRejectedBarred (r : RcuId) (tag : Byte) (s : State) : Host.Outcome State Fault Refusal :=
  .next (s.receivePlain r 69 tag)

/-- R107. -/
def execRejectedCongested (r : RcuId) (tag : Byte) (s : State) : Host.Outcome State Fault Refusal :=
  .next (s.receivePlain r 70 tag)

/-- R106, R107. -/
def execRejectedSubscription (r : RcuId) (tag : Byte) (s : State) :
    Host.Outcome State Fault Refusal := .next (s.receivePlain r 71 tag)

/-- R107, R139. -/
def execNoCell (r : RcuId) (tag : Byte) (s : State) : Host.Outcome State Fault Refusal :=
  .next (s.receivePlain r 72 tag)

/-- R109. -/
def execAlerting (r : RcuId) (tag : Byte) (s : State) : Host.Outcome State Fault Refusal :=
  .next (s.receivePlain r 73 tag)

/-- R109. -/
def execAnswered (r : RcuId) (tag : Byte) (s : State) : Host.Outcome State Fault Refusal :=
  .next (s.receivePlain r 74 tag)

/-- R110. -/
def execDialRejected (r : RcuId) (tag : Byte) (s : State) : Host.Outcome State Fault Refusal :=
  .next (s.receivePlain r 75 tag)

/-- R115, R119. -/
def execDelivered (r : RcuId) (tag : Byte) (s : State) : Host.Outcome State Fault Refusal :=
  .next (s.receivePlain r 76 tag)

/-- R115, R119. -/
def execNotDelivered (r : RcuId) (tag : Byte) (s : State) : Host.Outcome State Fault Refusal :=
  .next (s.receivePlain r 77 tag)

/-- R58, R70. -/
def execDone (r : RcuId) (tag : Byte) (s : State) : Host.Outcome State Fault Refusal :=
  .next (s.receivePlain r 78 tag)

/-- R70, R139. -/
def execCamped (r : RcuId) (tag : Byte) (s : State) : Host.Outcome State Fault Refusal :=
  .next (s.receivePlain r 79 tag)

/-- R61. -/
def execCancelDone (r : RcuId) (tag : Byte) (s : State) : Host.Outcome State Fault Refusal :=
  .next (s.receivePlain r 80 tag)

/-! ## Notices -/

/-- R65, R69. -/
def execReady (r : RcuId) (s : State) : Host.Outcome State Fault Refusal := .next (s.receivePlain r 97 0)

/-- R65, R66, R132. -/
def execLinkLost (r : RcuId) (s : State) : Host.Outcome State Fault Refusal :=
  .next (s.receivePlain r 98 0)

/-- R65, R66, R133. -/
def execFarRelease (r : RcuId) (s : State) : Host.Outcome State Fault Refusal :=
  .next (s.receivePlain r 99 0)

/-- R65, R111. -/
def execAnsweredNotice (r : RcuId) (s : State) : Host.Outcome State Fault Refusal :=
  .next (s.receivePlain r 100 0)

/-- R65, R140. -/
def execPaged (r : RcuId) (s : State) : Host.Outcome State Fault Refusal :=
  .next (s.receivePlain r 101 0)

/-- R65, R139. -/
def execCellLost (r : RcuId) (s : State) : Host.Outcome State Fault Refusal :=
  .next (s.receivePlain r 102 0)

/-! ## Gaps and bad frames -/

/-- R187: the gap empties the link receiver. -/
def execLinkGap (r : RcuId) (before : List Byte) (s : State) : Host.Outcome State Fault Refusal :=
  .next ((s.receive r before).modPart fun p => p.modRadio r fun x => { x with receiver := .empty })

/-- R187: bytes of a frame whose parameter count is above 24. -/
def execMalformedFrame (r : RcuId) (bytes : List Byte) (s : State) : Host.Outcome State Fault Refusal :=
  .next (s.receive r bytes)

/-- R55, R188: the bytes of a complete frame, whatever they are. -/
def execDiscardedFrame (r : RcuId) (bytes : List Byte) (s : State) :
    Host.Outcome State Fault Refusal := .next (s.receive r bytes)

end Sys2Proof.Machine
end

