-- ==== Sys2Proof/Machine/Measuring.lean ====
section
/-! DEFINITION. The commands of the converter, the Gate Counters and the battery sample timer
(02_measuring_a_channel.md, 10_battery_supervision_and_start_up.md section 10.1). -/

namespace Sys2Proof.Machine

/-! ## Conversions -/

/-- R25, R27: the result is delivered, unless it was withdrawn. -/
def Part.deliverResult (g : Settings) (c : Conversion) (p : Part) : Part :=
  if c.withdrawn then p else p.deliver g c.source c.result

/-- R25: the steps after the delivery. `next` stands on the line of the conversion that starts. -/
def Part.advanceConverter (next : Microvolts) (p : Part) : Part :=
  let q := match p.converter.nextSource with
    | some src => p.setLine src next
    | none => p
  { q with converter := q.converter.advance q.lines }

/-- R25: a conversion completes. The head of the queue, or a deferred request, starts after the delivery and what
the delivery leads to at its block. -/
def Part.conversionComplete (next : Microvolts) (g : Settings) (p : Part) : Part :=
  match p.converter.current with
  | some c => (p.deliverResult g c).advanceConverter next
  | none => p

/-- R25. -/
def execConversionComplete (next : Microvolts) (s : State) : Host.Outcome State Fault Refusal :=
  .next (s.eventIf (fun p => p.converter.current.isSome) (Part.conversionComplete next))

/-! ## Gates -/

/-- R30, R33: the opening tick. -/
def execGateOpen (r : RcuId) (syncHigh : Bool) (s : State) : Host.Outcome State Fault Refusal :=
  .next (s.modPart fun p => p.modRadio r fun x => { x with gate := x.gate.openTick syncHigh })

/-- R30. -/
def execSyncRisingEdge (r : RcuId) (s : State) : Host.Outcome State Fault Refusal :=
  .next (s.modPart fun p => p.modRadio r fun x => { x with gate := x.gate.edge })

/-- R31: the close delivers S to the RCU, and the counter returns to IDLE. -/
def Radio.closeGate (x : Radio) : Radio :=
  { x with gate := GateCounter.cleared,
           measurement := if x.measurement.phase = .sampling
             then { x.measurement with count := some x.gate.count } else x.measurement }

/-- R31, R34. -/
def execGateClose (r : RcuId) (s : State) : Host.Outcome State Fault Refusal :=
  .next (s.eventIf (fun p => (p.radio r).gate.mode == .opened) fun g p =>
    (p.modRadio r Radio.closeGate).formPair g r)

/-- R33, R36: the boundary tick of a window. -/
def Radio.windowBoundary (x : Radio) : Radio :=
  { x with gate := x.gate.nextWindow, measurement := { x.measurement with count := some x.gate.count } }

/-- R33, R36: S is recorded, and a conversion is requested. The converter absorbs a second request (R25). -/
def Part.windowCloses (r : RcuId) (level : Microvolts) (p : Part) : Part :=
  if (p.radio r).gate.mode = .continuous then
    ((p.setLine (.rcu r) level).modRadio r Radio.windowBoundary).requestConversion (.rcu r)
  else p

/-- R33, R36. `level` stands on the level line, which a conversion that starts at this event samples. -/
def execContinuousWindowClose (r : RcuId) (level : Microvolts) (s : State) :
    Host.Outcome State Fault Refusal := .next (s.modPart (Part.windowCloses r level))

/-! ## The battery sample -/

/-- R174: the sample timer expires. -/
def Part.sampleExpires (battery : Microvolts) (p : Part) : Part :=
  if p.power.sampleTimer.isSome then
    Part.requestConversion .battery
      { p.setLine .battery battery with
        power := { p.power with sampleTimer := some Config.samplePeriod } }
  else p

/-- R174. -/
def execSampleTimerExpiry (battery : Microvolts) (s : State) : Host.Outcome State Fault Refusal :=
  .next (s.modPart (Part.sampleExpires battery))

end Sys2Proof.Machine
end

