-- ==== Sys2Proof/Machine/Bursts.lean ====
section
/-! DEFINITION. The bytes of every read item (11_link_formats.md section 11.3). -/

namespace Sys2Proof.Machine

/-- A list of bytes brought to a length, with zeros where it is short. -/
def padTo (n : Nat) (bytes : List Byte) : List Byte := (bytes ++ List.replicate n 0).take n

def boolByte (b : Bool) : Byte := if b then 1 else 0

/-- A record of a fixed number of bytes, or zeros where it is absent. Only some of those zeros are the manual's
(R22, and the code 0 of an absent window, slot, CANCEL, operator or position); the others are the model's choice
(log 31). -/
def orZeros {α : Type} (n : Nat) (f : α → List Byte) : Option α → List Byte
  | some a => f a
  | none => List.replicate n 0

/-! ## Panel burst (Table 11-7) -/

/-- Byte 2 of the panel burst. -/
def panelFlags (c : CallRec) (level : PowerLevel) : Nat :=
  bitAt level.low 0 + bitAt c.regain 1 + bitAt c.incoming 2 + 16 * level.code

/-- R149. -/
def State.panelBurst (d : Side) (s : State) : List Byte :=
  let c := s.part.call d.record
  let x := s.panel d
  [toByte c.state.code, toByte (s.part.indication d).code, toByte (panelFlags c s.part.power.level),
    toByte (16 * x.lastResult.code + c.lastCause.code), toByte c.rounds, toByte c.segments] ++
  bytes2 c.sequence.toNat ++ bytes2 c.elapsed ++ [x.lastCommand.getD 0, x.commandCount]

/-! ## TABLE_ENTRY (Table 11-8) -/

/-- Byte 1 of TABLE_ENTRY. -/
def entryFlags (g : Settings) (p : Part) (slot : Nat) (e : Entry) : Nat :=
  1 + bitAt (e.eligible g) 1 + bitAt (p.pinned slot e.key) 2 + bitAt e.fullRefused 3 +
    16 * e.barring.code + 64 * e.kind.code

/-- Bytes 1 to 11 of TABLE_ENTRY (R22). -/
def entryBytes (g : Settings) (p : Part) (slot : Nat) (e : Entry) : List Byte :=
  [toByte (entryFlags g p slot e), toByte e.key.band] ++ bytes2 e.key.channel ++ bytes2 e.carrier ++
    [toByte e.level, toByte e.quality, toByte e.age, toByte e.failures, toByte (e.shownScore g)]

/-- R22, R167. -/
def State.tableEntryBurst (s : State) : List Byte :=
  let slot := s.cabinet.tableSelect
  toByte slot :: orZeros 11 (entryBytes s.settings s.part slot) (s.part.entryAt slot)

/-! ## CABINET_STATUS (Table 11-9) -/

/-- Byte 0 of CABINET_STATUS. -/
def CabinetNotices.byte (n : CabinetNotices) : Nat :=
  bitAt n.testDone 0 + bitAt n.radioChanged 1 + bitAt n.powerChanged 2 + bitAt n.resetOccurred 3 +
    bitAt n.callEvent 4

/-- R169. -/
def State.cabinetStatusBurst (s : State) : List Byte :=
  let p := s.part
  let x := s.cabinet
  [toByte p.notices.byte, toByte p.power.level.code, toByte p.survey.state.code,
    toByte ((p.survey.kind.map BackgroundKind.code).getD 0), toByte p.survey.passCount,
    toByte p.entryCount, toByte (p.eligibleCount s.settings), x.lastCommand.getD 0,
    toByte x.lastResult.code, x.commandCount, toByte (x.lastItem.getD 0), toByte x.writeResult.code,
    boolByte x.clamped, x.writeCount, toByte p.testResult.code, boolByte p.noRadio]

/-! ## ROSTER -/

def rcuByte : Option RcuId → Byte
  | some .rcu0 => 0
  | some .rcu1 => 1
  | none => 255

/-- The flags byte of a record in ROSTER. -/
def CallRec.rosterFlags (c : CallRec) : Nat :=
  bitAt c.regain 0 + bitAt c.incoming 1 + bitAt c.radioHeld 2 + bitAt c.fading 3

/-- The attempt byte: bit 7 present, bit 0 access, bit 1 destination. -/
def attemptByte : Option Attempt → Byte
  | some a => toByte (128 + a.access.code + 2 * a.destination.code)
  | none => 0

/-- The attempt target: slot, 254 for ANY, 255 for none. With no attempt present it is 255 (log 27). -/
def targetByte : Option Attempt → Byte
  | some a =>
    match a.target with
    | .slot i => toByte i
    | .anyCell => 254
    | .noTarget => 255
  | none => 255

/-- The six plan items of a record, unused items 0. -/
def planBytes (plan : List PlanItem) : List Byte :=
  padTo 12 (plan.flatMap fun x => [toByte x.slot, toByte x.score])

/-- The 27 bytes of a record (R168). -/
def Part.recordBytes (p : Part) (k : RecId) : List Byte :=
  let c := p.call k
  [toByte c.state.code, rcuByte (p.callRcu k), toByte (p.queuePlace k.holder), toByte c.rosterFlags,
    toByte c.rounds, toByte c.segments, toByte c.lastCause.code] ++
  bytes2 c.sequence.toNat ++ bytes2 c.elapsed ++ [toByte c.cursor, toByte c.plan.length] ++
  planBytes c.plan ++ [attemptByte c.attempt, targetByte c.attempt]

def CarrierKey.bytes (c : CarrierKey) : List Byte := c.key.bytes ++ bytes2 c.carrier

/-- Whole seconds left of a timer. Whether a part of a second counts as one is left open (log 22). -/
def secondsLeft (us : Nat) : Nat :=
  if us % Config.second = 0 then us / Config.second
  else if Config.secondsRoundUp us then us / Config.second + 1 else us / Config.second

/-- The holder code of the record the RCU is lent to. -/
def WindowState.lentCode : WindowState → Nat
  | .lent d => d.record.holder.code
  | .camping => 0
  | .camped => 0

/-- The 12 bytes of the callback window. -/
def Window.bytes (w : Window) : List Byte :=
  [toByte w.state.code, toByte w.side.code] ++ bytes2 w.sequence.toNat ++ w.campKey.bytes ++
    [toByte w.state.lentCode] ++ bytes2 (secondsLeft w.expiry)

/-- The 21 bytes of the Recent-Carrier Stack. -/
def stackBytes (stack : List CarrierKey) : List Byte :=
  toByte stack.length :: padTo 20 (stack.flatMap CarrierKey.bytes)

/-- R168. With no window, the eleven bytes behind its state code are log 31's. -/
def Part.rosterBurst (p : Part) : List Byte :=
  p.recordBytes .sideA ++ p.recordBytes .sideB ++ p.recordBytes .test ++
    orZeros 12 Window.bytes p.window ++ stackBytes p.stack ++ bytes2 p.callSequence.toNat

/-! ## RADIOS -/

/-- The five bytes of a pending slot. The tag byte of an absent CANCEL is log 31's. -/
def Pending.bytes (q : Pending) : List Byte :=
  [toByte q.order.code, toByte q.tag, toByte q.phase.code] ++
    orZeros 2 (fun c : Cancel => [toByte c.tag, toByte c.phase.code]) q.cancel

/-- The 9 bytes of an RCU. The tag bytes of an EMPTY slot are log 31's. -/
def Part.radioBytes (p : Part) (r : RcuId) : List Byte :=
  let x := p.radio r
  [toByte x.condition.code, toByte x.faultCount, toByte (holderCode x.holder),
    boolByte (p.reserve == some r)] ++ orZeros 5 Pending.bytes x.slot

/-- A place in the claim queue. -/
def Waiting.byte (w : Waiting) : Byte := toByte (w.claimant.code + bitAt w.requeued 7)

/-- R168. -/
def Part.radiosBurst (p : Part) : List Byte :=
  p.radioBytes .rcu0 ++ p.radioBytes .rcu1 ++ [boolByte p.noRadio, toByte p.claims.length] ++
    padTo 4 (p.claims.map Waiting.byte)

/-! ## POWER and TEST_RESULT -/

/-- R168. -/
def State.powerBurst (s : State) : List Byte :=
  let m := s.part.power
  [toByte m.battery, toByte m.level.code, toByte m.pendingCount,
    toByte ((m.pendingTarget.map fun t => t.code + 1).getD 0), toByte s.settings.warnCode,
    toByte s.settings.shedCode, toByte m.resetCause.code, toByte m.resetCount]

/-- R173. -/
def Part.testResultBurst (p : Part) : List Byte := toByte p.testResult.code :: bytes2 p.testSequence.toNat

/-! ## Settings -/

/-- A record of the OPERATOR read. An empty index is shown as carrier 0 (R162). -/
def OperatorRec.bytes (o : OperatorRec) : List Byte :=
  bytes2 o.carrier ++ [toByte o.cls, boolByte o.subscribed]

/-- A position of the CHANNEL read (R163). -/
def ChannelItem.bytes (i : ChannelItem) : List Byte := 1 :: i.key.bytes ++ [toByte i.gate]

/-- A destination of the DESTINATIONS read, unused places 0. -/
def digitBytes (digits : List Nat) : List Byte := toByte digits.length :: padTo 20 (digits.map toByte)

/-- The read of a setting, by its address (Table 11-5). The class and subscribed bytes of an empty operator index, and
the band, channel and gate bytes of an empty channel position, are log 31's. -/
def Settings.burst (g : Settings) : Nat → Option (List Byte)
  | 1 => some [toByte g.levelFloor]
  | 2 => some (bytes2 g.agePeriod)
  | 3 => some (bytes2 g.surveyPeriod)
  | 4 => some [toByte g.bonusNarrow, toByte g.bonusWide, toByte g.bonusBroad]
  | 5 => some (bytes2 g.regainWindow)
  | 6 => some (bytes2 g.answerTimeout)
  | 7 => some [toByte g.callbackWindow]
  | 8 => some (bytes2 g.dozeDelay)
  | 9 => some [toByte g.warnCode, toByte g.shedCode]
  | 16 => some (g.operators.flatMap (orZeros 4 OperatorRec.bytes))
  | 17 => some (g.channels.flatMap (orZeros 5 ChannelItem.bytes))
  | 18 => some (digitBytes g.opsDigits ++ digitBytes g.publicDigits)
  | 19 => some (bytes2 g.siteCode ++ bytes3 g.kmPost)
  | _ => none

/-- The read of a cabinet item, by its address (Table 11-5). -/
def State.cabinetBurst (s : State) : Nat → Option (List Byte)
  | 24 => some [toByte s.cabinet.tableSelect]
  | 25 => some s.tableEntryBurst
  | 32 => some s.part.rosterBurst
  | 33 => some s.part.radiosBurst
  | 34 => some s.powerBurst
  | 35 => some s.part.testResultBurst
  | 36 => some s.cabinetStatusBurst
  | n => s.settings.burst n

end Sys2Proof.Machine
end

