-- ==== Sys2Proof/Machine/SettingWrites.lean ====
section
/-! DEFINITION. What a complete write to a Site Settings item does to the settings, by its data bytes
(09_cabinet_port_and_site_settings.md section 9.2, 11_link_formats.md R190). -/

namespace Sys2Proof.Machine

/-- The settings after a write, its result, and whether a value of it was clamped (R159). -/
structure SettingWrite where
  settings : Settings
  result : CommandResult
  clamped : Bool
  deriving DecidableEq, Repr

/-- R159: a refused write. -/
def Settings.badValue (g : Settings) : SettingWrite :=
  { settings := g, result := .badValue, clamped := false }

/-- R159: a write that takes effect. -/
def Settings.written (g : Settings) (clamped : Bool) : SettingWrite :=
  { settings := g, result := .accepted, clamped := clamped }

/-- R159: a value outside its range is replaced by the nearer end. -/
def clampTo (lo hi n : Nat) : Nat := max lo (min hi n)

/-- The number that bytes carry, most significant first. -/
def numOf (data : List Byte) : Nat := data.foldl (fun n b => 256 * n + b.toNat) 0

/-- A byte of a write form. -/
def byteAt (data : List Byte) (i : Nat) : Nat := (data[i]?.getD 0).toNat

/-- Two bytes of a write form. -/
def pairAt (data : List Byte) (i : Nat) : Nat := byteAt data i * 256 + byteAt data (i + 1)

/-! ## Numeric items (R160, R161, R165) -/

/-- The address of a timing or threshold setting (Table 11-5). -/
def itemAddress : SettingItem → Nat
  | .levelFloor => 1
  | .agePeriod => 2
  | .surveyPeriod => 3
  | .kindBonuses => 4
  | .regainWindow => 5
  | .answerTimeout => 6
  | .callbackWindow => 7
  | .dozeDelay => 8

/-- R160, Table 9-3: the range of an item. That of the kind bonuses is each bonus's own. -/
def itemRange : SettingItem → Nat × Nat
  | .levelFloor => (1, 62)
  | .agePeriod => (10, 600)
  | .surveyPeriod => (60, 3600)
  | .kindBonuses => (0, 15)
  | .regainWindow => (10, 300)
  | .answerTimeout => (30, 300)
  | .callbackWindow => (0, 30)
  | .dozeDelay => (5, 600)

/-- A value of an item, clamped to the item's range. -/
def clampItem (item : SettingItem) (n : Nat) : Nat :=
  clampTo (itemRange item).1 (itemRange item).2 n

/-- R160: a write of a timing or threshold setting. -/
def Settings.writeItem (item : SettingItem) (data : List Byte) (g : Settings) : SettingWrite :=
  let n := numOf data
  let v := clampItem item n
  match item with
  | .levelFloor => { g with levelFloor := v }.written (v != n)
  | .agePeriod => { g with agePeriod := v }.written (v != n)
  | .surveyPeriod => { g with surveyPeriod := v }.written (v != n)
  | .kindBonuses =>
    let bonus := fun i => clampItem .kindBonuses (byteAt data i)
    { g with bonusNarrow := bonus 0, bonusWide := bonus 1, bonusBroad := bonus 2 }.written
      (bonus 0 != byteAt data 0 || bonus 1 != byteAt data 1 || bonus 2 != byteAt data 2)
  | .regainWindow => { g with regainWindow := v }.written (v != n)
  | .answerTimeout => { g with answerTimeout := v }.written (v != n)
  | .callbackWindow => { g with callbackWindow := v }.written (v != n)
  | .dozeDelay => { g with dozeDelay := v }.written (v != n)

/-- R161: the pair in force after a write. -/
def thresholdPair (warn shed : Nat) : Nat × Nat :=
  let w := clampTo 2 61 warn
  (w, min (clampTo 0 61 shed) (w - 2))

/-- R161. -/
def Settings.writeThresholds (data : List Byte) (g : Settings) : SettingWrite :=
  let pair := thresholdPair (byteAt data 0) (byteAt data 1)
  { g with warnCode := pair.1, shedCode := pair.2 }.written
    (pair.1 != byteAt data 0 || pair.2 != byteAt data 1)

/-- R165. -/
def Settings.writeSite (data : List Byte) (g : Settings) : SettingWrite :=
  let km := byteAt data 2 * 65536 + pairAt data 3
  { g with siteCode := pairAt data 0, kmPost := clampTo 0 99999 km }.written (clampTo 0 99999 km != km)

/-! ## Selected items (R162, R163, R164) -/

/-- R162: a record is written at an index, and another record of the same carrier is removed. -/
def putOperator (index : Nat) (o : OperatorRec) (t : List (Option OperatorRec)) :
    List (Option OperatorRec) :=
  (t.map fun x => x.filter (·.carrier != o.carrier)).set index (some o)

/-- R162, R190. -/
def Settings.writeOperator (data : List Byte) (g : Settings) : SettingWrite :=
  let index := byteAt data 0
  let carrier := pairAt data 1
  let cls := byteAt data 3
  let mark := byteAt data 4
  if 15 < index ∨ 999 < carrier then g.badValue
  else if carrier = 0 then { g with operators := g.operators.set index none }.written false
  else if 3 < cls ∨ 1 < mark then g.badValue
  else
    { g with operators := putOperator index { carrier := carrier, cls := cls, subscribed := mark == 1 }
               g.operators }.written false

/-- R163: the gate lengths. -/
def gateLengths : List Nat := [8, 16, 32]

/-- R163, R190. -/
def Settings.writeChannel (data : List Byte) (g : Settings) : SettingWrite :=
  let position := byteAt data 0
  let present := byteAt data 1
  let band := byteAt data 2
  let channel := pairAt data 3
  let gate := byteAt data 5
  if 63 < position ∨ 1 < present then g.badValue
  else if present = 0 then { g with channels := g.channels.set position none }.written false
  else if 5 < band ∨ 4095 < channel ∨ gateLengths.contains gate = false then g.badValue
  else
    { g with channels := g.channels.set position
               (some { key := { band := band, channel := channel }, gate := gate }) }.written false

/-- R164: the digit counts a destination may have. -/
def digitCountAllowed : Nat → Nat → Bool
  | 0, count => decide (count ≤ 20)
  | 1, count => decide (1 ≤ count ∧ count ≤ 6)
  | _, _ => false

/-- R164, R190: the selector is OPS or PUBLIC by the destination codes. -/
def Settings.writeDestinations (data : List Byte) (g : Settings) : SettingWrite :=
  let selector := byteAt data 0
  let count := byteAt data 1
  let used := ((data.drop 2).take count).map (·.toNat)
  if digitCountAllowed selector count = false ∨ used.any (9 < ·) then g.badValue
  else if selector = 0 then { g with opsDigits := used }.written false
  else { g with publicDigits := used }.written false

/-- A complete write to a settings item, by its address (Table 11-5). -/
def Settings.write (address : Nat) (data : List Byte) (g : Settings) : SettingWrite :=
  match address with
  | 1 => g.writeItem .levelFloor data
  | 2 => g.writeItem .agePeriod data
  | 3 => g.writeItem .surveyPeriod data
  | 4 => g.writeItem .kindBonuses data
  | 5 => g.writeItem .regainWindow data
  | 6 => g.writeItem .answerTimeout data
  | 7 => g.writeItem .callbackWindow data
  | 8 => g.writeItem .dozeDelay data
  | 9 => g.writeThresholds data
  | 16 => g.writeOperator data
  | 17 => g.writeChannel data
  | 18 => g.writeDestinations data
  | 19 => g.writeSite data
  | _ => g.badValue

end Sys2Proof.Machine
end

