-- ==== Sys2Proof/Machine/Ports.lean ====
section
/-! DEFINITION. The three select-framed ports, byte by byte (08_panel_ports.md section 8.1,
09_cabinet_port_and_site_settings.md section 9.1), with what a complete write does. -/

namespace Sys2Proof.Machine

/-! ## Panel commands (R154, Table 8-2) -/

/-- R97: CALL. -/
def Part.callResult (k : RecId) (p : Part) : CommandResult :=
  if (p.call k).state = .idle then .accepted else .refusedState

/-- R97: the record leaves IDLE and claims an RCU. -/
def Part.placeCall (g : Settings) (k : RecId) (p : Part) : Part :=
  (p.startCall k).claim g { claimant := k.holder, requeued := false }

/-- R120: HANGUP. -/
def Part.hangupResult (k : RecId) (p : Part) : CommandResult :=
  match (p.call k).state with
  | .queued => .accepted
  | .seeking => .accepted
  | .attaching => .accepted
  | .dialling => .accepted
  | .ringing => .accepted
  | .announcing => .accepted
  | .connected => .accepted
  | .idle => .refusedState
  | .clearing => .refusedState
  | .alertingIn => .refusedState

/-- R120, R135. -/
def Part.hangUp (k : RecId) (p : Part) : Part :=
  match (p.call k).state with
  | .queued => (p.leaveQueue k.holder).recordIdle k
  | .seeking => p.enterClearing k
  | .attaching => p.enterClearing k
  | .dialling => p.enterClearing k
  | .ringing => p.enterClearing k
  | .announcing => p.enterClearing k
  | .connected => (p.onRcu k fun r q => q.leaveConnected k r).enterClearing k
  | .idle => p
  | .clearing => p
  | .alertingIn => p

/-- R141: the ANSWER of a panel. -/
def Part.answerResult (k : RecId) (p : Part) : CommandResult :=
  if (p.call k).state = .alertingIn ∧ (p.call k).answerInHand = false then .accepted else .refusedState

/-- R141. -/
def Part.answerCall (k : RecId) (p : Part) : Part :=
  (p.modCall k fun c => { c with ringTimer := none, answerInHand := true }).onRcu k fun r q =>
    q.offer r .answer

/-- R154, Table 8-2: the result of a panel command. -/
def Part.panelResult (k : RecId) (code : Byte) (p : Part) : CommandResult :=
  match code.toNat with
  | 1 => p.callResult k
  | 2 => p.hangupResult k
  | 3 => p.answerResult k
  | _ => .unknown

/-- R154, step 1: the effect of a panel command. -/
def Part.panelEffect (k : RecId) (code : Byte) (g : Settings) (p : Part) : Part :=
  match p.panelResult k code, code.toNat with
  | .accepted, 1 => p.placeCall g k
  | .accepted, 2 => p.hangUp k
  | .accepted, 3 => p.answerCall k
  | _, _ => p

/-- R154, steps 2 to 4. -/
def PanelPort.recordCommand (code : Byte) (result : CommandResult) (x : PanelPort) : PanelPort :=
  { x with lastCommand := some code, lastResult := result, commandCount := x.commandCount + 1,
           notices := { x.notices with commandResult := true } }

/-- R154: a panel command is taken. -/
def State.panelCommand (d : Side) (code : Byte) (s : State) : State :=
  (s.event (Part.panelEffect d.record code)).modPanel d
    (PanelPort.recordCommand code (s.part.panelResult d.record code))

/-! ## Cabinet commands (R171, Table 9-4) -/

/-- R118: TEST_CALL. -/
def Part.testCallResult (g : Settings) (p : Part) : CommandResult :=
  if p.power.level = .shed then .refusedPower
  else if p.test.state ≠ .idle then .refusedBusy
  else if g.opsDigits = [] then .refusedState
  else .accepted

/-- R118, R173. -/
def Part.placeTest (g : Settings) (p : Part) : Part :=
  let q := p.startCall .test
  Part.claim g { claimant := .test, requeued := false }
    { q with testResult := .running, testSequence := q.test.sequence }

/-- R79: RESTORE_RADIO, by its parameter. -/
def rcuOfParameter (parameter : Byte) : Option RcuId :=
  match parameter.toNat with
  | 0 => some .rcu0
  | 1 => some .rcu1
  | _ => none

/-- R171, Table 9-4: the result of a cabinet command other than RESET. -/
def State.cabinetResult (code parameter : Byte) (s : State) : CommandResult :=
  match code.toNat with
  | 16 => s.part.testCallResult s.settings
  | 17 => s.part.startSweepResult
  | 18 => .accepted
  | 19 =>
    match rcuOfParameter parameter with
    | some r => s.part.restoreResult r
    | none => .badValue
  | _ => .badValue

/-- R171: the effect of an ACCEPTED cabinet command other than RESET. -/
def Part.cabinetEffect (code parameter : Byte) (g : Settings) (p : Part) : Part :=
  match code.toNat with
  | 16 => p.placeTest g
  | 17 => p.requestSweep g .full
  | 18 => p.clearTable
  | 19 =>
    match rcuOfParameter parameter with
    | some r => p.restoreRadio r
    | none => p
  | _ => p

/-- R171, step 3. -/
def CabinetPort.recordCommand (code : Byte) (result : CommandResult) (x : CabinetPort) : CabinetPort :=
  { x with lastCommand := some code, lastResult := result, commandCount := x.commandCount + 1 }

/-- R171, R172: a cabinet command is taken. -/
def State.cabinetCommand (code parameter : Byte) (s : State) : State :=
  if code.toNat = 31 then s.beginCabinetReset
  else
    let result := s.cabinetResult code parameter
    let acted := if result = .accepted then s.event (Part.cabinetEffect code parameter) else s
    { acted with cabinet := acted.cabinet.recordCommand code result }

/-! ## Cabinet writes -/

/-- R159: the write record. -/
def CabinetPort.recordWrite (address : Nat) (result : CommandResult) (clamped : Bool) (x : CabinetPort) :
    CabinetPort :=
  { x with lastItem := some address, writeResult := result, clamped := clamped,
           writeCount := x.writeCount + 1 }

/-- R167: a write of TABLE_SELECT. -/
def State.writeTableSelect (data : List Byte) (s : State) : State :=
  let slot := byteAt data 0
  if 23 < slot then { s with cabinet := s.cabinet.recordWrite 24 .badValue false }
  else { s with cabinet := { s.cabinet with tableSelect := slot }.recordWrite 24 .accepted false }

/-- R159, R44: a write of a settings item. A change of the Channel List's emptiness goes to the Survey Engine. -/
def State.writeSetting (address : Nat) (data : List Byte) (s : State) : State :=
  let w := s.settings.write address data
  let stored := { s with settings := w.settings }
  let followed :=
    if s.settings.listHasItem = w.settings.listHasItem then stored
    else stored.event fun g p => p.listChanged g s.settings.listHasItem
  { followed with cabinet := followed.cabinet.recordWrite address w.result w.clamped }

/-- R158: a write of the Cabinet Port is taken. -/
def State.cabinetWrite (address : Nat) (data : List Byte) (s : State) : State :=
  match address with
  | 24 => s.writeTableSelect data
  | 40 => s.cabinetCommand (data[0]?.getD 0) (data[1]?.getD 0)
  | _ => s.writeSetting address data

/-! ## Items (Table 11-5) -/

/-- The data bytes a cabinet write carries. -/
def cabinetWriteBytes : Nat → Option Nat
  | 1 => some 1
  | 2 => some 2
  | 3 => some 2
  | 4 => some 3
  | 5 => some 2
  | 6 => some 2
  | 7 => some 1
  | 8 => some 2
  | 9 => some 2
  | 16 => some 5
  | 17 => some 6
  | 18 => some 22
  | 19 => some 5
  | 24 => some 1
  | 40 => some 2
  | _ => none

/-- The data bytes a write to an item of a port carries, if the item takes writes. -/
def portWriteBytes (q : PortId) (address : Nat) : Option Nat :=
  match q with
  | .panelA => if address = 3 then some 1 else none
  | .panelB => if address = 3 then some 1 else none
  | .cabinet => cabinetWriteBytes address

/-- The burst a read of an item latches, if the item can be read. -/
def State.burstFor (q : PortId) (address : Nat) (s : State) : Option (List Byte) :=
  match q with
  | .panelA => if address = 1 ∨ address = 2 then some (s.panelBurst .a) else none
  | .panelB => if address = 1 ∨ address = 2 then some (s.panelBurst .b) else none
  | .cabinet => s.cabinetBurst address

/-- R167: the table select after a TABLE_ENTRY read. -/
def nextSlot (n : Nat) : Nat := if n < 23 then n + 1 else 0

/-- What else a read header does: STATUS and CABINET_STATUS empty the notice set (R150, R169), TABLE_ENTRY advances
the table select (R167). -/
def State.readEffect (q : PortId) (address : Nat) (s : State) : State :=
  match q with
  | .panelA => if address = 1 then s.modPanel .a fun x => { x with notices := PanelNotices.none } else s
  | .panelB => if address = 1 then s.modPanel .b fun x => { x with notices := PanelNotices.none } else s
  | .cabinet =>
    if address = 36 then s.modPart fun p => { p with notices := CabinetNotices.none }
    else if address = 25 then
      { s with cabinet := { s.cabinet with tableSelect := nextSlot s.cabinet.tableSelect } }
    else s

/-- A write of a port is taken. -/
def State.takeWrite (q : PortId) (address : Nat) (data : List Byte) (s : State) : State :=
  match q with
  | .panelA => s.panelCommand .a (data[0]?.getD 0)
  | .panelB => s.panelCommand .b (data[0]?.getD 0)
  | .cabinet => s.cabinetWrite address data

/-! ## Bytes -/

/-- R146, R158, R189: the header's eighth bit arrives. -/
def State.takeHeader (q : PortId) (b : Byte) (s : State) : State :=
  let address := b.toNat % 128
  if 128 ≤ b.toNat then
    match s.burstFor q address with
    | some burst =>
      (s.readEffect q address).modTx q fun t =>
        { t with state := .reading, item := some address, burst := some burst }
    | none => s.modTx q fun t => { t with state := .ignoring }
  else
    match portWriteBytes q address with
    | some _ => s.modTx q fun t => { t with state := .writing, item := some address, written := [] }
    | none => s.modTx q fun t => { t with state := .ignoring }

/-- R147, R158: a data byte of a write is complete. -/
def State.takeData (q : PortId) (b : Byte) (s : State) : State :=
  let t := s.tx q
  let data := t.written ++ [b]
  match t.item with
  | some address =>
    if portWriteBytes q address = some data.length then
      State.takeWrite q address data
        (s.setTx q { t with state := .ignoring, byteCount := data.length, written := data })
    else s.setTx q { t with byteCount := data.length, written := data }
  | none => s

/-- R148: a byte of a read goes out. The first, clocked too early, carries 0. -/
def Transaction.sendByte (early : Bool) (t : Transaction) : Transaction :=
  let burst := t.burst.getD []
  let out : Byte := if t.byteCount = 0 ∧ early then 0 else burst[t.byteCount]?.getD 0
  let n := t.byteCount + 1
  { t with byteCount := n, dataOut := t.dataOut ++ [out],
           state := if burst.length ≤ n then .ignoring else .reading }

/-- A zero byte goes out. -/
def Transaction.sendZero (t : Transaction) : Transaction := { t with dataOut := t.dataOut ++ [0] }

/-- Eight clocks at a port: `b` comes in, and in a read a byte goes out. While the part is HELD clocks are ignored, and
the data output drives a zero byte (R156). What it drives in WAIT_DESELECT is not given, and no byte is kept there
(log 8). -/
def State.clock (q : PortId) (early : Bool) (s : State) (b : Byte) : State :=
  if s.isHeld then s.modTx q Transaction.sendZero
  else
    match (s.tx q).state with
    | .deselected => s
    | .header => s.takeHeader q b
    | .writing => s.takeData q b
    | .reading => s.modTx q (Transaction.sendByte early)
    | .ignoring => s.modTx q Transaction.sendZero
    | .waitDeselect => s

/-- A run of bytes at a port. -/
def State.clockBytes (q : PortId) (early : Bool) (bytes : List Byte) (s : State) : State :=
  bytes.foldl (State.clock q early) s

/-! ## Select -/

/-- R146: select is asserted with the port DESELECTED. -/
def Transaction.start : Transaction :=
  { select := true, state := .header, item := none, byteCount := 0, burst := none, written := [],
    dataOut := [] }

/-- R146, R156: select is asserted. -/
def State.selectRises (q : PortId) (s : State) : State :=
  s.modTx q fun t =>
    if s.isHeld = false ∧ t.state = .deselected then Transaction.start else { t with select := true }

/-- R146: the transaction ends. -/
def Transaction.finish (t : Transaction) : Transaction :=
  { t with select := false, state := .deselected, byteCount := 0, burst := none, written := [] }

/-- R146, R147, R158: select is deasserted. -/
def State.selectFalls (q : PortId) (s : State) : State := s.modTx q Transaction.finish

end Sys2Proof.Machine
end

