-- ==== Sys2Proof/Machine/PortCommands.lean ====
section
/-! DEFINITION. The commands that arrive at a port. Each is the bytes of that transaction, clocked at the port as it
stands (log 8). -/

namespace Sys2Proof.Machine

/-! ## Select -/

/-- R146. -/
def execSelectAssert (q : PortId) (s : State) : Host.Outcome State Fault Refusal :=
  .next (s.selectRises q)

/-- R146: the bytes clocked since the last event at the port, and then the deselect. -/
def execSelectDeassert (q : PortId) (clocked : List Byte) (early : Bool) (s : State) :
    Host.Outcome State Fault Refusal := .next ((s.clockBytes q early clocked).selectFalls q)

/-! ## Panel -/

/-- A read of an item: its header, and then so many bytes clocked. -/
def State.readItem (q : PortId) (header : Byte) (clocks : Nat) (early : Bool) (s : State) : State :=
  s.clockBytes q early (header :: List.replicate clocks 0)

/-- R149, R150. -/
def execStatus (d : Side) (clocks : Nat) (early : Bool) (s : State) :
    Host.Outcome State Fault Refusal := .next (s.readItem d.port 0x81 clocks early)

/-- R149. -/
def execPeek (d : Side) (clocks : Nat) (early : Bool) (s : State) : Host.Outcome State Fault Refusal :=
  .next (s.readItem d.port 0x82 clocks early)

/-- A write of an item: its address as the header, and its data. -/
def State.writeItem (q : PortId) (address : Byte) (data : List Byte) (s : State) : State :=
  s.clockBytes q false (address :: data)

/-- R146, R158. -/
def execIgnoredHeader (q : PortId) (header : Byte) (data : List Byte) (s : State) :
    Host.Outcome State Fault Refusal := .next (s.clockBytes q false (header :: data))

/-- R97, R154. -/
def execCall (d : Side) (s : State) : Host.Outcome State Fault Refusal :=
  .next (s.writeItem d.port 3 [1])

/-- R120, R135, R154. -/
def execHangup (d : Side) (s : State) : Host.Outcome State Fault Refusal :=
  .next (s.writeItem d.port 3 [2])

/-- R141, R154. -/
def execAnswer (d : Side) (s : State) : Host.Outcome State Fault Refusal :=
  .next (s.writeItem d.port 3 [3])

/-- R154. -/
def execUnknownCommand (d : Side) (code : Byte) (s : State) : Host.Outcome State Fault Refusal :=
  .next (s.writeItem d.port 3 [code])

/-! ## Cabinet reads -/

/-- R169. -/
def execCabinetStatus (clocks : Nat) (early : Bool) (s : State) : Host.Outcome State Fault Refusal :=
  .next (s.readItem .cabinet 0xa4 clocks early)

/-- R22, R167. -/
def execTableEntry (clocks : Nat) (early : Bool) (s : State) : Host.Outcome State Fault Refusal :=
  .next (s.readItem .cabinet 0x99 clocks early)

/-! ## Cabinet writes -/

/-- R167. -/
def execTableSelect (slot : Byte) (s : State) : Host.Outcome State Fault Refusal :=
  .next (s.writeItem .cabinet 24 [slot])

/-- R160. -/
def execSettingWrite (item : SettingItem) (data : List Byte) (s : State) :
    Host.Outcome State Fault Refusal := .next (s.writeItem .cabinet (toByte (itemAddress item)) data)

/-- R161. -/
def execThresholds (warn shed : Byte) (s : State) : Host.Outcome State Fault Refusal :=
  .next (s.writeItem .cabinet 9 [warn, shed])

/-- R162. -/
def execOperator (index : Byte) (carrier : BitVec 16) (cls subscribed : Byte) (s : State) :
    Host.Outcome State Fault Refusal :=
  .next (s.writeItem .cabinet 16 (index :: bytes2 carrier.toNat ++ [cls, subscribed]))

/-- R163, R44. -/
def execChannel (position present band : Byte) (channel : BitVec 16) (gate : Byte) (s : State) :
    Host.Outcome State Fault Refusal :=
  .next (s.writeItem .cabinet 17 ([position, present, band] ++ bytes2 channel.toNat ++ [gate]))

/-- R164. -/
def execDestinations (selector count : Byte) (digits : List Byte) (s : State) :
    Host.Outcome State Fault Refusal := .next (s.writeItem .cabinet 18 (selector :: count :: digits))

/-- R165. -/
def execSite (code : BitVec 16) (kmPost : BitVec 24) (s : State) : Host.Outcome State Fault Refusal :=
  .next (s.writeItem .cabinet 19 (bytes2 code.toNat ++ bytes3 kmPost.toNat))

/-! ## Cabinet commands -/

/-- R118, R171. -/
def execTestCall (parameter : Byte) (s : State) : Host.Outcome State Fault Refusal :=
  .next (s.writeItem .cabinet 40 [16, parameter])

/-- R45, R171. -/
def execStartSweep (parameter : Byte) (s : State) : Host.Outcome State Fault Refusal :=
  .next (s.writeItem .cabinet 40 [17, parameter])

/-- R21, R171, R172. -/
def execClearTable (parameter : Byte) (s : State) : Host.Outcome State Fault Refusal :=
  .next (s.writeItem .cabinet 40 [18, parameter])

/-- R79, R171. -/
def execRestoreRadio (parameter : Byte) (s : State) : Host.Outcome State Fault Refusal :=
  .next (s.writeItem .cabinet 40 [19, parameter])

/-- R172, R183. -/
def execReset (parameter : Byte) (s : State) : Host.Outcome State Fault Refusal :=
  .next (s.writeItem .cabinet 40 [31, parameter])

/-- R171. -/
def execUnknownCode (code parameter : Byte) (s : State) : Host.Outcome State Fault Refusal :=
  .next (s.writeItem .cabinet 40 [code, parameter])

end Sys2Proof.Machine
end

