-- ==== Sys2Proof/Machine/Supply.lean ====
section
/-! DEFINITION. The commands of the supply and of the cabinet hold
(10_battery_supervision_and_start_up.md sections 10.4 to 10.6). -/

namespace Sys2Proof.Machine

/-- R181. -/
def execPowerOn (s : State) : Host.Outcome State Fault Refusal := .next s.beginPowerOn

/-- R180, R186. The assertion present from a power-on has no command of its own (R181, log 33). -/
def execBrownOutAssert (s : State) : Host.Outcome State Fault Refusal := .next s.beginBrownOut

/-- The battery line, as the first conversion after the release samples it (R185). -/
def State.setBattery (v : Microvolts) (s : State) : State := s.modPart (Part.setLine .battery v)

/-- R180, R183: the cause supply low ends. -/
def State.endSupplyLow (s : State) : State :=
  s.modPart fun p => { p with power := { p.power with supplyLow := false } }

/-- R186: the deassertion that a new assertion of its instant has overtaken. The input stays asserted. -/
def State.overtaken (s : State) : State :=
  s.modPart fun p => { p with power := p.power.assertedAgain false }

/-- R180, R183, R186. -/
def execBrownOutDeassert (battery : Microvolts) (s : State) : Host.Outcome State Fault Refusal :=
  .next (if s.part.power.supplyLow then
      if s.part.power.reasserted then s.overtaken
      else ((s.setBattery battery).endSupplyLow).releaseIfFree
    else s)

/-- R183: the cabinet hold ends. -/
def State.endCabinetHold (s : State) : State :=
  s.modPart fun p => { p with power := { p.power with cabinetHold := none } }

/-- R183. -/
def execCabinetHoldEnd (battery : Microvolts) (s : State) : Host.Outcome State Fault Refusal :=
  .next (if s.part.power.cabinetHold.isSome then ((s.setBattery battery).endCabinetHold).releaseIfFree
    else s)

end Sys2Proof.Machine
end

