-- ==== Sys2Proof/Machine/Timers.lean ====
section
/-! DEFINITION. The commands that are expiries of limits and timers. An expiry is taken whenever its timer runs
(log 3). One that finds its timer stopped changes nothing (log 25). -/

namespace Sys2Proof.Machine

/-! ## Limits and timers of an RCU -/

/-- An acknowledgement limit of the RCU runs. -/
def Radio.ackRuns (x : Radio) : Bool := x.slot.any (·.ackRuns)

/-- R57, R75. -/
def execAckLimitExpiry (r : RcuId) (s : State) : Host.Outcome State Fault Refusal :=
  .next (s.eventIf (fun p => (p.radio r).ackRuns) fun g p => p.moduleFault g r)

/-- R62, for the order that stands in the slot. -/
def Part.failureExpiry (g : Settings) (r : RcuId) (p : Part) : Part :=
  match (p.radio r).slot with
  | some q => p.failureExpires g r q
  | none => p

/-- A failure limit of the RCU runs. -/
def Radio.failureRuns (x : Radio) : Bool := x.slot.any (·.failureRuns)

/-- R62. -/
def execFailureExpiry (r : RcuId) (s : State) : Host.Outcome State Fault Refusal :=
  .next (s.eventIf (fun p => (p.radio r).failureRuns) fun g p => p.failureExpiry g r)

/-- A fault limit of the RCU runs. -/
def Radio.faultRuns (x : Radio) : Bool := x.slot.any (·.faultRuns)

/-- R59, R61, R75. -/
def execFaultExpiry (r : RcuId) (s : State) : Host.Outcome State Fault Refusal :=
  .next (s.eventIf (fun p => (p.radio r).faultRuns) fun g p => p.moduleFault g r)

/-- R67, R111: NO_ANSWER is reported to the holder. -/
def Part.answerExpires (r : RcuId) (p : Part) : Part :=
  let q := p.modRadio r fun x => { x with answerTimer := none }
  match ((p.radio r).holder).bind Holder.record with
  | some k => if (q.call k).state = .ringing then q.noAnswer k r else q
  | none => q

/-- R67. -/
def execAnswerTimerExpiry (r : RcuId) (s : State) : Host.Outcome State Fault Refusal :=
  .next (s.eventIf (fun p => (p.radio r).answerTimer.isSome) fun _ p => p.answerExpires r)

/-- The READY timer runs, in BOOTING. -/
def Radio.awaitsReady (x : Radio) : Bool := x.condition == .booting && x.readyTimer.isSome

/-- R69, R75. -/
def execReadyTimerExpiry (r : RcuId) (s : State) : Host.Outcome State Fault Refusal :=
  .next (s.eventIf (fun p => (p.radio r).awaitsReady) fun g p => p.moduleFault g r)

/-- R72: DOZE goes out, and the RCU goes DOZE at the sending. -/
def Radio.dozeOff (x : Radio) : Radio := { x.send .doze .rcu with condition := .doze, dozeTimer := none }

/-- The doze timer runs, in the conditions of R72. -/
def Radio.mayDoze (x : Radio) : Bool := x.dozeTimer.isSome && x.isReady && x.holder.isNone

/-- R72. -/
def execDozeTimerExpiry (r : RcuId) (s : State) : Host.Outcome State Fault Refusal :=
  .next (s.eventIf (fun p => (p.radio r).mayDoze) fun _ p => p.modRadio r Radio.dozeOff)

/-- The recovery timer runs, in FAULTED. -/
def Radio.recovers (x : Radio) : Bool := x.condition == .faulted && x.recoveryTimer.isSome

/-- R78. -/
def execRecoveryTimerExpiry (r : RcuId) (s : State) : Host.Outcome State Fault Refusal :=
  .next (s.eventIf (fun p => (p.radio r).recovers) fun _ p => p.returnRadio r)

/-! ## Timers of a record and of the window -/

/-- The pause timer runs, in PAUSED. -/
def CallRec.isPaused (c : CallRec) : Bool :=
  c.state == .seeking && c.step == .paused && c.pauseTimer.isSome

/-- R113. -/
def execPauseTimerExpiry (k : RecId) (s : State) : Host.Outcome State Fault Refusal :=
  .next (s.eventIf (fun p => (p.call k).isPaused) fun _ p =>
    p.modCall k fun c => { c with pauseTimer := none, step := .start })

/-- R131. -/
def CallRec.regainExpired (c : CallRec) : CallRec :=
  { c with regainTimer := none, regain := false, droppedKey := none }

/-- R131. -/
def execRegainTimerExpiry (k : RecId) (s : State) : Host.Outcome State Fault Refusal :=
  .next (s.eventIf (fun p => (p.call k).regainTimer.isSome) fun _ p => p.modCall k CallRec.regainExpired)

/-- R142: on the record. -/
def CallRec.ringExpired (c : CallRec) : CallRec :=
  { c with ringTimer := none, lastCause := .noAnswer, ringTimedOut := true }

/-- R142: the ring timeout. -/
def Part.ringTimeout (k : RecId) (p : Part) : Part :=
  ((p.modCall k CallRec.ringExpired).onRcu k fun r q => q.offer r .reject).enterClearing k

/-- The ring timer runs, in ALERTING_IN. -/
def CallRec.rings (c : CallRec) : Bool := c.state == .alertingIn && c.ringTimer.isSome

/-- R142. -/
def execRingTimerExpiry (k : RecId) (s : State) : Host.Outcome State Fault Refusal :=
  .next (s.eventIf (fun p => (p.call k).rings) fun _ p => p.ringTimeout k)

/-- R143, R144. -/
def execWindowExpiry (s : State) : Host.Outcome State Fault Refusal :=
  .next (s.eventIf (fun p => p.window.isSome) fun _ p => p.closeWindow)

/-! ## Timers of the table, the survey and the second count -/

/-- R18, R19. The tick changes no state a reaction or a notice rests on. -/
def State.ageTick (s : State) : State :=
  if s.part.ageTimer.isSome then
    { s with part := { s.part.ageEntries with ageTimer := some (s.settings.agePeriod * Config.second) } }
  else s

/-- R19. -/
def execAgeTick (s : State) : Host.Outcome State Fault Refusal := .next s.ageTick

/-- R42, R43. The restart reads the period and the level of the expiry. -/
def Part.surveyTimeout (g : Settings) (p : Part) : Part :=
  Part.surveyExpires g { p with survey := { p.survey with timer := some (g.surveyTime p.power.level) } }

/-- R43. -/
def execSurveyTimerExpiry (s : State) : Host.Outcome State Fault Refusal :=
  .next (s.eventIf (fun p => p.survey.timer.isSome) fun g p => p.surveyTimeout g)

/-- R96: a second of a record. -/
def CallRec.second (c : CallRec) : CallRec :=
  if c.state = .idle then c else { c with elapsed := satInc 65535 c.elapsed }

/-- R96: a second of the Call Manager's count. -/
def State.elapsedSecond (s : State) : State :=
  if s.part.secondTimer.isSome then
    { s with part := { s.part with
        sideA := s.part.sideA.second, sideB := s.part.sideB.second, test := s.part.test.second,
        secondTimer := some Config.second } }
  else s

/-- R96. -/
def execElapsedSecond (s : State) : Host.Outcome State Fault Refusal := .next s.elapsedSecond

end Sys2Proof.Machine
end

