-- ==== Sys2Proof/Machine/Dispatch.lean ====
section
/-! DEFINITION. One arm per command, each one call of its meaning. -/

namespace Sys2Proof.Machine

def exec (i : Instr) (s : State) : Host.Outcome State Fault Refusal :=
  match i with
  | .moduleAcknowledgement r tag => Sys2Proof.Machine.execModuleAcknowledgement r tag s
  | .settled r tag level => Sys2Proof.Machine.execSettled r tag level s
  | .heard r tag carrier kind barring => Sys2Proof.Machine.execHeard r tag carrier kind barring s
  | .notHeard r tag => Sys2Proof.Machine.execNotHeard r tag s
  | .accepted r tag report => Sys2Proof.Machine.execAccepted r tag report s
  | .rejectedBarred r tag => Sys2Proof.Machine.execRejectedBarred r tag s
  | .rejectedSubscription r tag => Sys2Proof.Machine.execRejectedSubscription r tag s
  | .rejectedCongested r tag => Sys2Proof.Machine.execRejectedCongested r tag s
  | .noCell r tag => Sys2Proof.Machine.execNoCell r tag s
  | .alerting r tag => Sys2Proof.Machine.execAlerting r tag s
  | .answered r tag => Sys2Proof.Machine.execAnswered r tag s
  | .dialRejected r tag => Sys2Proof.Machine.execDialRejected r tag s
  | .delivered r tag => Sys2Proof.Machine.execDelivered r tag s
  | .notDelivered r tag => Sys2Proof.Machine.execNotDelivered r tag s
  | .done r tag => Sys2Proof.Machine.execDone r tag s
  | .camped r tag => Sys2Proof.Machine.execCamped r tag s
  | .cancelDone r tag => Sys2Proof.Machine.execCancelDone r tag s
  | .ready r => Sys2Proof.Machine.execReady r s
  | .linkLost r => Sys2Proof.Machine.execLinkLost r s
  | .farRelease r => Sys2Proof.Machine.execFarRelease r s
  | .answeredNotice r => Sys2Proof.Machine.execAnsweredNotice r s
  | .paged r => Sys2Proof.Machine.execPaged r s
  | .cellLost r => Sys2Proof.Machine.execCellLost r s
  | .linkGap r before => Sys2Proof.Machine.execLinkGap r before s
  | .ackLimitExpiry r => Sys2Proof.Machine.execAckLimitExpiry r s
  | .failureExpiry r => Sys2Proof.Machine.execFailureExpiry r s
  | .faultExpiry r => Sys2Proof.Machine.execFaultExpiry r s
  | .answerTimerExpiry r => Sys2Proof.Machine.execAnswerTimerExpiry r s
  | .readyTimerExpiry r => Sys2Proof.Machine.execReadyTimerExpiry r s
  | .dozeTimerExpiry r => Sys2Proof.Machine.execDozeTimerExpiry r s
  | .recoveryTimerExpiry r => Sys2Proof.Machine.execRecoveryTimerExpiry r s
  | .pauseTimerExpiry k => Sys2Proof.Machine.execPauseTimerExpiry k s
  | .regainTimerExpiry k => Sys2Proof.Machine.execRegainTimerExpiry k s
  | .ringTimerExpiry k => Sys2Proof.Machine.execRingTimerExpiry k s
  | .windowExpiry => Sys2Proof.Machine.execWindowExpiry s
  | .ageTick => Sys2Proof.Machine.execAgeTick s
  | .surveyTimerExpiry => Sys2Proof.Machine.execSurveyTimerExpiry s
  | .sampleTimerExpiry battery => Sys2Proof.Machine.execSampleTimerExpiry battery s
  | .elapsedSecond => Sys2Proof.Machine.execElapsedSecond s
  | .cabinetHoldEnd battery => Sys2Proof.Machine.execCabinetHoldEnd battery s
  | .conversionComplete next => Sys2Proof.Machine.execConversionComplete next s
  | .gateOpen r syncHigh => Sys2Proof.Machine.execGateOpen r syncHigh s
  | .syncRisingEdge r => Sys2Proof.Machine.execSyncRisingEdge r s
  | .gateClose r => Sys2Proof.Machine.execGateClose r s
  | .continuousWindowClose r level => Sys2Proof.Machine.execContinuousWindowClose r level s
  | .powerOn => Sys2Proof.Machine.execPowerOn s
  | .brownOutAssert => Sys2Proof.Machine.execBrownOutAssert s
  | .brownOutDeassert battery => Sys2Proof.Machine.execBrownOutDeassert battery s
  | .selectAssert port => Sys2Proof.Machine.execSelectAssert port s
  | .selectDeassert port clocked early => Sys2Proof.Machine.execSelectDeassert port clocked early s
  | .status side clocks early => Sys2Proof.Machine.execStatus side clocks early s
  | .peek side clocks early => Sys2Proof.Machine.execPeek side clocks early s
  | .ignoredHeader port header data => Sys2Proof.Machine.execIgnoredHeader port header data s
  | .call side => Sys2Proof.Machine.execCall side s
  | .hangup side => Sys2Proof.Machine.execHangup side s
  | .answer side => Sys2Proof.Machine.execAnswer side s
  | .unknownCommand side code => Sys2Proof.Machine.execUnknownCommand side code s
  | .cabinetStatus clocks early => Sys2Proof.Machine.execCabinetStatus clocks early s
  | .tableEntry clocks early => Sys2Proof.Machine.execTableEntry clocks early s
  | .tableSelect slot => Sys2Proof.Machine.execTableSelect slot s
  | .settingWrite item data => Sys2Proof.Machine.execSettingWrite item data s
  | .thresholds warn shed => Sys2Proof.Machine.execThresholds warn shed s
  | .operator index carrier cls subscribed => Sys2Proof.Machine.execOperator index carrier cls subscribed s
  | .channel position present band channel gate => Sys2Proof.Machine.execChannel position present band channel gate s
  | .destinations selector count digits => Sys2Proof.Machine.execDestinations selector count digits s
  | .site code kmPost => Sys2Proof.Machine.execSite code kmPost s
  | .testCall parameter => Sys2Proof.Machine.execTestCall parameter s
  | .startSweep parameter => Sys2Proof.Machine.execStartSweep parameter s
  | .clearTable parameter => Sys2Proof.Machine.execClearTable parameter s
  | .restoreRadio parameter => Sys2Proof.Machine.execRestoreRadio parameter s
  | .reset parameter => Sys2Proof.Machine.execReset parameter s
  | .unknownCode code parameter => Sys2Proof.Machine.execUnknownCode code parameter s
  | .malformedFrame r bytes => Sys2Proof.Machine.execMalformedFrame r bytes s
  | .discardedFrame r bytes => Sys2Proof.Machine.execDiscardedFrame r bytes s

end Sys2Proof.Machine
end

