-- ==== Sys2Proof/Machine/Idle.lean ====
section
/-! DEFINITION. What passes on a step with an empty queue: 20 microseconds of the part's time (log 2). No expiry is
taken here: a timer that has come to 0 waits for its row (log 3). -/

namespace Sys2Proof.Machine

/-- R24: the converter makes its next trial when 40 microseconds of the last have passed. -/
def Conversion.elapse (us : Nat) (c : Conversion) : Conversion :=
  if c.trials < 6 then
    if Config.trial ≤ c.trialTime + us then { c.trial with trialTime := c.trialTime + us - Config.trial }
    else { c with trialTime := c.trialTime + us }
  else c

/-- The limits of a slot count down (R57, R59, R61). -/
def Pending.elapse (us : Nat) (q : Pending) : Pending :=
  { q with limit := q.limit.elapse us,
           cancel := q.cancel.map fun c => { c with limit := c.limit - us } }

/-- The timers of an RCU count down. `beat` says that a frame tick falls in this time. The frames handed to the
link have gone out (log 10), and an item that has ended has not ended just now (log 28). -/
def Radio.elapse (us : Nat) (beat : Bool) (x : Radio) : Radio :=
  { x with slot := x.slot.map (Pending.elapse us), answerTimer := x.answerTimer.elapse us,
           readyTimer := x.readyTimer.elapse us, dozeTimer := x.dozeTimer.elapse us,
           recoveryTimer := x.recoveryTimer.elapse us, txQueue := [],
           gate := if beat then x.gate.bareTick else x.gate,
           sweep := x.sweep.map fun c => { c with endedNow := false } }

/-- The timers of a record count down. -/
def CallRec.elapse (us : Nat) (c : CallRec) : CallRec :=
  { c with pauseTimer := c.pauseTimer.elapse us, regainTimer := c.regainTimer.elapse us,
           ringTimer := c.ringTimer.elapse us }

/-- R30: the frame clock. -/
def frameBeats (us : Nat) (clock : Timer) : Bool := clock.any fun n => decide (n ≤ us)

/-- R30: the time to the next frame tick, and past one the next again. -/
def frameElapse (us : Nat) (clock : Timer) : Timer :=
  clock.map fun n => if n ≤ us then n + Config.frame - us else n - us

/-- Time passes for the inner blocks. -/
def Part.elapse (us : Nat) (p : Part) : Part :=
  let beat := frameBeats us p.frameClock
  { p with
    ageTimer := p.ageTimer.elapse us, radio0 := p.radio0.elapse us beat, radio1 := p.radio1.elapse us beat,
    converter := { p.converter with current := p.converter.current.map (Conversion.elapse us) },
    frameClock := frameElapse us p.frameClock,
    survey := { p.survey with timer := p.survey.timer.elapse us },
    sideA := p.sideA.elapse us, sideB := p.sideB.elapse us, test := p.test.elapse us,
    secondTimer := p.secondTimer.elapse us,
    window := p.window.map fun w => { w with expiry := w.expiry - us },
    power := { p.power with cabinetHold := p.power.cabinetHold.elapse us,
                            sampleTimer := p.power.sampleTimer.elapse us } }

/-- A step with an empty queue. -/
def State.idle (s : State) : State := s.modPart (Part.elapse Config.tick)

end Sys2Proof.Machine
end

