-- ==== Sys2Proof/Safety.lean ====
section
/-! DEFINITION. What is safe in this part: the ranges and exclusions the manual promises of every state, as
invariants, and the words the statements share. -/

namespace Sys2Proof.Machine

/-! ## Words for statements -/

/-- Nothing is left for any block to do at this event. -/
def Part.isQuiet (p : Part) : Bool := p.nextReaction.isNone

/-- The RCU's link receiver waits for the first byte of a frame, and the part is RUNNING. -/
abbrev State.listens (r : RcuId) (s : State) : Prop := s.isHeld = false ∧ (s.part.radio r).receiver = .empty

/-- The RCU takes frames: its receiver waits for a first byte, and its supply is on (R55, test 4). -/
abbrev State.hears (r : RcuId) (s : State) : Prop := s.listens r ∧ (s.part.radio r).supplyOn = true

/-- The RCU has an order of its holder in the slot, and that holder is the record. -/
abbrev Part.awaits (k : RecId) (r : RcuId) (q : Pending) (p : Part) : Prop :=
  (p.radio r).slot = some q ∧ (p.radio r).holder = some k.holder ∧ q.issuer = .holder ∧ q.phase ≠ .retired

/-- R58, steps 1 and 3: an outcome has emptied the slot and proved the module, and left the condition alone. -/
def Part.answeredOn (r : RcuId) (p : Part) : Part := (p.modRadio r fun x => { x with slot := none }).prove r

/-- A port whose transaction has just begun (R146), with the part RUNNING. -/
abbrev State.atStart (q : PortId) (s : State) : Prop := s.isHeld = false ∧ s.tx q = Transaction.start

/-- The commands that put bytes on the Cabinet Port, and the resets that load defaults: no other command can change
the Site Settings. -/
def mayChangeSettings : Instr → Bool
  | .powerOn => true
  | .brownOutAssert => true
  | .selectDeassert q _ _ => q == .cabinet
  | .ignoredHeader q _ _ => q == .cabinet
  | .cabinetStatus _ _ => true
  | .tableEntry _ _ => true
  | .tableSelect _ => true
  | .settingWrite _ _ => true
  | .thresholds _ _ => true
  | .operator _ _ _ _ => true
  | .channel _ _ _ _ _ => true
  | .destinations _ _ _ => true
  | .site _ _ => true
  | .testCall _ => true
  | .startSweep _ => true
  | .clearTable _ => true
  | .restoreRadio _ => true
  | .reset _ => true
  | .unknownCode _ _ => true
  | _ => false

/-- The port at which a command clocks bytes and how many, its header included. A deselect is not among them. -/
def portBytes : Instr → Option (PortId × Nat)
  | .status d clocks _ => some (d.port, clocks + 1)
  | .peek d clocks _ => some (d.port, clocks + 1)
  | .ignoredHeader q _ data => some (q, data.length + 1)
  | .call d => some (d.port, 2)
  | .hangup d => some (d.port, 2)
  | .answer d => some (d.port, 2)
  | .unknownCommand d _ => some (d.port, 2)
  | .cabinetStatus clocks _ => some (.cabinet, clocks + 1)
  | .tableEntry clocks _ => some (.cabinet, clocks + 1)
  | .tableSelect _ => some (.cabinet, 2)
  | .settingWrite _ data => some (.cabinet, data.length + 1)
  | .thresholds _ _ => some (.cabinet, 3)
  | .operator _ _ _ _ => some (.cabinet, 6)
  | .channel _ _ _ _ _ => some (.cabinet, 7)
  | .destinations _ _ digits => some (.cabinet, digits.length + 3)
  | .site _ _ => some (.cabinet, 6)
  | .testCall _ => some (.cabinet, 3)
  | .startSweep _ => some (.cabinet, 3)
  | .clearTable _ => some (.cabinet, 3)
  | .restoreRadio _ => some (.cabinet, 3)
  | .reset _ => some (.cabinet, 3)
  | .unknownCode _ _ => some (.cabinet, 3)
  | _ => none

/-- The commands of the supply and of the cabinet hold (R180 to R183). -/
def actsInHold : Instr → Bool
  | .powerOn => true
  | .brownOutAssert => true
  | .brownOutDeassert _ => true
  | .cabinetHoldEnd _ => true
  | _ => false

/-! ## Site Settings (R160 to R165) -/

def OperatorRec.Ok (o : OperatorRec) : Prop := 1 ≤ o.carrier ∧ o.carrier ≤ 999 ∧ o.cls ≤ 3

def ChannelItem.Ok (i : ChannelItem) : Prop :=
  i.key.band ≤ 5 ∧ i.key.channel ≤ 4095 ∧ (i.gate = 8 ∨ i.gate = 16 ∨ i.gate = 32)

/-- Every setting in its range: Table 9-3, R161 to R165. -/
structure Settings.Ok (g : Settings) : Prop where
  levelFloor : 1 ≤ g.levelFloor ∧ g.levelFloor ≤ 62
  agePeriod : 10 ≤ g.agePeriod ∧ g.agePeriod ≤ 600
  surveyPeriod : 60 ≤ g.surveyPeriod ∧ g.surveyPeriod ≤ 3600
  kindBonuses : g.bonusNarrow ≤ 15 ∧ g.bonusWide ≤ 15 ∧ g.bonusBroad ≤ 15
  regainWindow : 10 ≤ g.regainWindow ∧ g.regainWindow ≤ 300
  answerTimeout : 30 ≤ g.answerTimeout ∧ g.answerTimeout ≤ 300
  callbackWindow : g.callbackWindow ≤ 30
  dozeDelay : 5 ≤ g.dozeDelay ∧ g.dozeDelay ≤ 600
  thresholds : 2 ≤ g.warnCode ∧ g.warnCode ≤ 61 ∧ g.shedCode + 2 ≤ g.warnCode
  operators : g.operators.length = 16 ∧ ∀ o, some o ∈ g.operators → o.Ok
  oneRecordPerCarrier : ∀ (i j : Nat) (a b : OperatorRec),
    g.operators[i]? = some (some a) → g.operators[j]? = some (some b) → a.carrier = b.carrier → i = j
  channels : g.channels.length = 64 ∧ ∀ i, some i ∈ g.channels → i.Ok
  opsDigits : g.opsDigits.length ≤ 20 ∧ ∀ d ∈ g.opsDigits, d ≤ 9
  publicDigits : 1 ≤ g.publicDigits.length ∧ g.publicDigits.length ≤ 6 ∧ ∀ d ∈ g.publicDigits, d ≤ 9
  site : g.siteCode ≤ 65535 ∧ g.kmPost ≤ 99999

/-! ## The Cell Table and the stack (R1, R128) -/

/-- R1 and R128: 24 slots, no two entries of one key. At most 4 stack keys, none twice. -/
structure Part.Keyed (p : Part) : Prop where
  slots : p.table.length = 24
  oneEntryPerKey : ∀ (i j : Nat) (a b : Entry),
    p.entryAt i = some a → p.entryAt j = some b → a.key = b.key → i = j
  stackDepth : p.stack.length ≤ 4
  stackKeys : (p.stack.map (·.key)).Nodup

/-! ## Ranges (R2, R24, R31, R57, R77) -/

/-- R2. -/
def Entry.Ok (e : Entry) : Prop := e.level ≤ 63 ∧ e.quality ≤ 100 ∧ e.age ≤ 15 ∧ e.failures ≤ 7

/-- The trials made so far leave the code below what the trials to come can still add to 63. -/
def Conversion.Ok (c : Conversion) : Prop := c.trials ≤ 6 ∧ c.code + 2 ^ (6 - c.trials) ≤ 64

/-- Level codes and qualities on their way to the Cell Table, the tag counter and the fault count. -/
structure Radio.Ok (x : Radio) : Prop where
  code : ∀ n, x.measurement.code = some n → n ≤ 63
  pair : ∀ c l q, x.sweep = some c → c.pair = some (l, q) → l ≤ 63 ∧ q ≤ 100
  tagCounter : 1 ≤ x.tagCounter ∧ x.tagCounter ≤ 15
  faultCount : x.faultCount ≤ 3

structure Part.InRange (p : Part) : Prop where
  entries : ∀ e, some e ∈ p.table → e.Ok
  conversion : ∀ c, p.converter.current = some c → c.Ok
  radio0 : p.radio0.Ok
  radio1 : p.radio1.Ok
  battery : p.power.battery ≤ 63
  passCount : p.survey.passCount ≤ 3

/-! ## Who holds what (R81, R117) -/

/-- A sweep context of the Survey Engine's own. -/
def Sweep.isBackground (c : Sweep) : Bool := c.kind == .full || c.kind == .refresh

/-- R81: a holder holds at most one RCU, waits at most once and not while it holds one, and no FAULTED or DISABLED
RCU is assigned. A background sweep runs only on the survey claimant's RCU. R117: a side's voice path is closed
to an RCU only while that side's record is CONNECTED and holds that RCU. -/
structure Part.Owned (p : Part) : Prop where
  oneRcuPerHolder : ∀ h, p.radio0.holder = some h → p.radio1.holder ≠ some h
  waitsOnce : (p.claims.map (·.claimant)).Nodup
  waitsUnassigned : ∀ h r, (p.radio r).holder = some h → p.waits h = false
  backgroundSweeps : ∀ r c, (p.radio r).sweep = some c → c.isBackground = true ∨ c.state = .ending →
    (p.radio r).holder = some .survey
  brokenUnassigned : ∀ r, (p.radio r).broken = true → (p.radio r).holder = none
  voice : ∀ d r, p.voice d = some r →
    (p.call d.record).state = .connected ∧ (p.radio r).holder = some d.record.holder

end Sys2Proof.Machine
end

