-- ==== Sys2Proof/WellFormed.lean ====
section
/-! DEFINITION. Which terms of Instr are the event their row names. The meanings are total: a term that fails
a check is still run, by what its bytes say. -/

namespace Sys2Proof

/-- The data bytes a write of a setting carries (Table 11-5). -/
def SettingItem.writeBytes : SettingItem → Nat
  | .levelFloor => 1
  | .agePeriod => 2
  | .surveyPeriod => 2
  | .kindBonuses => 3
  | .regainWindow => 2
  | .answerTimeout => 2
  | .callbackWindow => 1
  | .dozeDelay => 2

/-- The headers a panel port takes (R146, R189). -/
def panelHeaders : List Byte := [0x81, 0x82, 0x03]

/-- The headers the Cabinet Port takes: read headers, then write headers (Table 11-5). -/
def cabinetHeaders : List Byte :=
  [0x81, 0x82, 0x83, 0x84, 0x85, 0x86, 0x87, 0x88, 0x89, 0x90, 0x91, 0x92, 0x93, 0x98, 0x99,
    0xa0, 0xa1, 0xa2, 0xa3, 0xa4] ++
  [0x01, 0x02, 0x03, 0x04, 0x05, 0x06, 0x07, 0x08, 0x09, 0x10, 0x11, 0x12, 0x13, 0x18, 0x28]

/-- The headers a port takes. -/
def PortId.headers : PortId → List Byte
  | .panelA => panelHeaders
  | .panelB => panelHeaders
  | .cabinet => cabinetHeaders

/-- The panel command codes of Table 11-6. -/
def panelCodes : List Byte := [1, 2, 3]

/-- The cabinet command codes of Table 11-6. -/
def cabinetCodes : List Byte := [16, 17, 18, 19, 31]

/-- The count byte of a run of frame bytes, if it has arrived. -/
def countByte (bytes : List Byte) : Option Nat := (bytes[2]?).map (·.toNat)

/-- R55: the tag of an acknowledgement or outcome. -/
def tagInRange (tag : Byte) : Bool := decide (1 ≤ tag.toNat ∧ tag.toNat ≤ 15)

/-- R188: a carrier field. -/
def carrierInRange (carrier : BitVec 16) : Bool := decide (1 ≤ carrier.toNat ∧ carrier.toNat ≤ 999)

/-- R188: an access kind or a barring. -/
def codeInRange (code : Byte) : Bool := decide (code.toNat ≤ 2)

/-- R188: the fields of a reported cell. -/
def CellReport.inRange (c : CellReport) : Bool :=
  decide (c.band.toNat ≤ 5 ∧ c.channel.toNat ≤ 4095) && carrierInRange c.carrier && codeInRange c.kind &&
    codeInRange c.barring

/-- The checks: lengths and ranges fixed by the formats, and operands that belong to the row and not to another
one (a frame that fails one is a DISCARDED_FRAME). -/
def Instr.WellFormed : Instr → Bool
  | .moduleAcknowledgement _ tag => tagInRange tag
  | .settled _ tag _ => tagInRange tag
  | .heard _ tag carrier kind barring =>
    tagInRange tag && carrierInRange carrier && codeInRange kind && codeInRange barring
  | .notHeard _ tag => tagInRange tag
  | .accepted _ tag report => tagInRange tag && report.all CellReport.inRange
  | .rejectedBarred _ tag => tagInRange tag
  | .rejectedSubscription _ tag => tagInRange tag
  | .rejectedCongested _ tag => tagInRange tag
  | .noCell _ tag => tagInRange tag
  | .alerting _ tag => tagInRange tag
  | .answered _ tag => tagInRange tag
  | .dialRejected _ tag => tagInRange tag
  | .delivered _ tag => tagInRange tag
  | .notDelivered _ tag => tagInRange tag
  | .done _ tag => tagInRange tag
  | .camped _ tag => tagInRange tag
  | .cancelDone _ tag => tagInRange tag
  | .ready _ => true
  | .linkLost _ => true
  | .farRelease _ => true
  | .answeredNotice _ => true
  | .paged _ => true
  | .cellLost _ => true
  | .linkGap _ _ => true
  | .ackLimitExpiry _ => true
  | .failureExpiry _ => true
  | .faultExpiry _ => true
  | .answerTimerExpiry _ => true
  | .readyTimerExpiry _ => true
  | .dozeTimerExpiry _ => true
  | .recoveryTimerExpiry _ => true
  | .pauseTimerExpiry _ => true
  | .regainTimerExpiry _ => true
  | .ringTimerExpiry _ => true
  | .windowExpiry => true
  | .ageTick => true
  | .surveyTimerExpiry => true
  | .sampleTimerExpiry _ => true
  | .elapsedSecond => true
  | .cabinetHoldEnd _ => true
  | .conversionComplete _ => true
  | .gateOpen _ _ => true
  | .syncRisingEdge _ => true
  | .gateClose _ => true
  | .continuousWindowClose _ _ => true
  | .powerOn => true
  | .brownOutAssert => true
  | .brownOutDeassert _ => true
  | .selectAssert _ => true
  | .selectDeassert _ _ _ => true
  | .status _ _ _ => true
  | .peek _ _ _ => true
  | .ignoredHeader port header _ => !(port.headers.contains header)
  | .call _ => true
  | .hangup _ => true
  | .answer _ => true
  | .unknownCommand _ code => !(panelCodes.contains code)
  | .cabinetStatus _ _ => true
  | .tableEntry _ _ => true
  | .tableSelect _ => true
  | .settingWrite item data => data.length == item.writeBytes
  | .thresholds _ _ => true
  | .operator _ _ _ _ => true
  | .channel _ _ _ _ _ => true
  | .destinations _ _ digits => digits.length == 20
  | .site _ _ => true
  | .testCall _ => true
  | .startSweep _ => true
  | .clearTable _ => true
  | .restoreRadio _ => true
  | .reset _ => true
  | .unknownCode code _ => !(cabinetCodes.contains code)
  | .malformedFrame _ bytes => (countByte bytes).any (24 < ·)
  | .discardedFrame _ bytes => (countByte bytes).any (fun n => n ≤ 24 && bytes.length == n + 4)

end Sys2Proof
end

