-- ==== Sys2Proof/Certificates/Slice0/Obligations.lean ====
section
/-! DEFINITION. The statements for the provers. In the statements of single commands, `State.conclude p` is the
state after an event whose own effect has left the inner blocks at p: what a ready RCU, an empty slot or a grantable
RCU then sets off at that event has run (`Part.settle`), the doze timers follow (R72), and the ports have compared
what they report (`State.endEvent`, R151, R152, R155, R170). -/

open Sys2Proof Sys2Proof.Machine

/-! ## The machine -/

/-- A step takes the command at the front of the queue, and runs it on the state with the rest of the queue. -/
def Obligations.StepTakesFrontCommand : Prop :=
  ∀ (c : Instr) (rest : List Instr) (s : State), s.pending = c :: rest →
    step s = exec c { s with pending := rest }

/-- Every command completes in every state, and leaves the queue alone. The Site Settings change at no command
but the bytes of the Cabinet Port and the resets that load defaults. -/
def Obligations.EveryCommandCompletes : Prop :=
  ∀ (c : Instr) (s : State), ∃ t, exec c s = .next t ∧ t.pending = s.pending ∧
    (mayChangeSettings c = false → t.settings = s.settings)

/-- A step with an empty queue passes 20 µs (DESIGN CHOICE, log 2). It takes no expiry (log 3): timers and running
limits only count down. The frames on the links have gone out (log 10), an item of a sweep that has ended has not
ended just now (log 28), and a bare frame tick takes one from the ticks left of an open gate, never the last (log
24). The converter may make a trial, which leaves its result. Nothing else changes. -/
def Obligations.IdleStepOnlyPassesTime : Prop :=
  ∀ s : State, s.pending = [] → let p := s.part
    let less := fun (t : Timer) => t.map (· - 20)
    let beats := p.frameClock.any fun n => decide (n ≤ 20)
    ∃ (conversion : Option Conversion) (gate : RcuId → GateCounter),
      let radio := fun (r : RcuId) => ({ p.radio r with
        gate := gate r, txQueue := [], sweep := (p.radio r).sweep.map fun c => { c with endedNow := false },
        slot := (p.radio r).slot.map fun q =>
          { q with limit := less q.limit, cancel := q.cancel.map fun c => { c with limit := c.limit - 20 } },
        answerTimer := less (p.radio r).answerTimer, readyTimer := less (p.radio r).readyTimer,
        dozeTimer := less (p.radio r).dozeTimer, recoveryTimer := less (p.radio r).recoveryTimer } : Radio)
      let call := fun (k : RecId) => ({ p.call k with
        pauseTimer := less (p.call k).pauseTimer, regainTimer := less (p.call k).regainTimer,
        ringTimer := less (p.call k).ringTimer } : CallRec)
      step s = .next { s with part := { p with
        radio0 := radio .rcu0, radio1 := radio .rcu1, sideA := call .sideA, sideB := call .sideB,
        test := call .test, converter := { p.converter with current := conversion },
        frameClock := p.frameClock.map fun n => if n ≤ 20 then n + 10000 - 20 else n - 20,
        secondTimer := less p.secondTimer, ageTimer := less p.ageTimer,
        survey := { p.survey with timer := less p.survey.timer },
        window := p.window.map fun w => { w with expiry := w.expiry - 20 },
        power := { p.power with cabinetHold := less p.power.cabinetHold,
                                sampleTimer := less p.power.sampleTimer } } } ∧
      (∀ r, let old := (p.radio r).gate
        (beats = true → old.mode = .opened ∨ old.mode = .continuous → 1 < old.ticksLeft →
          gate r = { old with ticksLeft := old.ticksLeft - 1 }) ∧
        (beats = false ∨ (old.mode ≠ .opened ∧ old.mode ≠ .continuous) ∨ old.ticksLeft ≤ 1 → gate r = old)) ∧
      (p.converter.current = none → conversion = none) ∧
      (∀ c, p.converter.current = some c → ∃ c', conversion = some c' ∧ c'.source = c.source ∧ c'.vin = c.vin ∧
        c'.withdrawn = c.withdrawn ∧ c'.result = c.result ∧ c.trials ≤ c'.trials)

/-- The model's own convention (log 11): what an event sets off is the first enabled reaction of a fixed list,
again and again, until none is enabled or 128 have run. The end of the event (R72, R151, R152, R155, R125, R170)
writes the doze timers, the notices that compare its two ends (log 26) and the reported values, and nothing
else. -/
def Obligations.EventsEndWithTheirReports : Prop :=
  (∀ (s : State) (p : Part), s.conclude p = s.endEvent (p.settle s.settings 128)) ∧
  (∀ (g : Settings) (p : Part) (n : Nat), p.settle g 0 = p ∧
    ((∀ x ∈ allReactions, x.enabled p = false) → p.settle g n = p) ∧
    (∀ front x back, allReactions = front ++ x :: back → (∀ y ∈ front, y.enabled p = false) →
      x.enabled p = true → p.settle g (n + 1) = (x.run g p).settle g n)) ∧
  (∀ (s : State) (p : Part), ∃ (doze : RcuId → Timer) (levels calls : Bool) (kinds : Side → PanelNotices),
    let shown := fun (d : Side) => ({ s.panel d with
      notices := kinds d, reportedIndication := p.indication d, reportedLevel := p.power.level } : PanelPort)
    s.endEvent p = { s with
      part := { p with
        radio0 := { p.radio0 with dozeTimer := doze .rcu0 }, radio1 := { p.radio1 with dozeTimer := doze .rcu1 },
        notices := { p.notices with powerChanged := levels, callEvent := calls } },
      panelA := shown .a, panelB := shown .b, cabinet := { s.cabinet with reportedLevel := p.power.level } } ∧
    (∀ r, let waits := (p.radio r).condition = .awake ∧ (p.radio r).slot = none ∧ (p.radio r).holder = none
      (waits → doze r = some ((p.radio r).dozeTimer.getD (s.settings.dozeDelay * 1000000))) ∧
      (¬ waits → doze r = none)) ∧
    (levels = true ↔ p.notices.powerChanged = true ∨ p.power.level ≠ s.cabinet.reportedLevel) ∧
    (calls = true ↔ p.notices.callEvent = true ∨ ∃ d : Side, let before := (s.part.call d.record).state
      let after := (p.call d.record).state
      before ≠ after ∧ (before = .idle ∨ after = .connected ∨ after = .idle)) ∧
    (∀ d, (kinds d).commandResult = (s.panel d).notices.commandResult ∧
      ((kinds d).stateChanged = true ↔ (s.panel d).notices.stateChanged = true ∨
        (s.part.call d.record).state ≠ (p.call d.record).state ∨
        (s.part.call d.record).rounds ≠ (p.call d.record).rounds ∨
        (s.part.call d.record).segments ≠ (p.call d.record).segments ∨
        (s.part.call d.record).lastCause ≠ (p.call d.record).lastCause) ∧
      ((kinds d).indicationChanged = true ↔ (s.panel d).notices.indicationChanged = true ∨
        p.indication d ≠ (s.panel d).reportedIndication) ∧
      ((kinds d).powerChanged = true ↔ (s.panel d).notices.powerChanged = true ∨
        p.power.level ≠ (s.panel d).reportedLevel)))

/-! ## Resets -/

/-- R182: what the beginning of each reset writes. R186: an assertion of the brown-out input that is taken before
the deassertion of its instant writes the record again, and the part is held again (that the assertion of an
asserted input is this meeting is the model's reading, log 33). R184, R3, R39, R80, R95, R128, R156: what every block
is in a hold. -/
def Obligations.ResetsWriteTheRecord : Prop :=
  ∀ s : State, let n := min 255 (s.part.power.resetCount + 1)
    exec .powerOn s = .next (s.hold
      (Part.held s.part.lines (PowerMonitor.held true none .powerOn 0)) Settings.default) ∧
    exec .brownOutAssert s = .next (s.hold
      (Part.held s.part.lines { PowerMonitor.held true s.part.power.cabinetHold .brownOut n with
        reasserted := s.part.power.supplyLow }) Settings.default) ∧
    (∀ v t, s.part.power.supplyLow = true → exec .brownOutAssert s = .next t →
      exec (.brownOutDeassert v) t = .next (s.hold
        (Part.held s.part.lines (PowerMonitor.held true s.part.power.cabinetHold .brownOut n))
        Settings.default)) ∧
    (∀ parameter, s.atStart .cabinet →
      exec (.reset parameter) s = .next (s.hold
        (Part.held s.part.lines (PowerMonitor.held false (some 5000) .cabinet n)) s.settings)) ∧
    (∀ t, exec .powerOn s = .next t ∨ exec .brownOutAssert s = .next t ∨
        (s.atStart .cabinet ∧ ∃ parameter, exec (.reset parameter) s = .next t) →
      t.isHeld = true ∧ t.part.table = List.replicate 24 none ∧ t.part.ageTimer = none ∧
      t.part.frameClock = none ∧ t.part.secondTimer = none ∧ t.part.stack = [] ∧ t.part.claims = [] ∧
      t.part.window = none ∧ t.part.callSequence = 0 ∧ t.part.survey.kind = none ∧ t.part.survey.timer = none ∧
      t.part.survey.passCount = 0 ∧ t.part.testResult = .noResult ∧ t.part.notices = CabinetNotices.none ∧
      t.part.lines = s.part.lines ∧ t.part.power.level = .normal ∧ t.part.power.pendingTarget = none ∧
      t.part.power.sampleTimer = none ∧
      t.part.converter.queue = [] ∧ t.part.converter.current = none ∧ t.part.converter.deferred = none ∧
      (∀ d, t.part.voice d = none) ∧
      (∀ k, let c := t.part.call k
        c.state = .idle ∧ c.step = .start ∧ c.plan = [] ∧ c.cursor = 0 ∧ c.attempt = none ∧ c.rounds = 0 ∧
        c.segments = 0 ∧ c.regain = false ∧ c.radioHeld = false ∧ c.answeredDest = none ∧ c.elapsed = 0 ∧
        c.lastCause = .noCause ∧ c.sequence = 0 ∧ c.fadeCount = 0 ∧ c.fading = false ∧ c.pauseTimer = none ∧
        c.droppedKey = none ∧ c.regainTimer = none ∧ c.ringTimer = none) ∧
      (∀ r, let x := t.part.radio r
        x.condition = .off ∧ x.supplyOn = false ∧ x.slot = none ∧ x.tagCounter = 1 ∧ x.holder = none ∧
        x.sweep = none ∧ x.receiver = .empty ∧ x.faultCount = 0 ∧ x.proving = false ∧ x.answerTimer = none ∧
        x.readyTimer = none ∧ x.dozeTimer = none ∧ x.recoveryTimer = none ∧ x.gate.mode = .idle ∧
        x.gate.count = 0 ∧ x.measurement.phase = .none) ∧
      (∀ q, t.attention q = false ∧ (t.tx q).select = (s.tx q).select ∧ (t.tx q).state = .deselected) ∧
      (∀ d, (t.panel d).notices = PanelNotices.none ∧ (t.panel d).lastCommand = none ∧
        (t.panel d).commandCount = 0) ∧
      t.cabinet.tableSelect = 0 ∧ t.cabinet.lastCommand = none ∧ t.cabinet.commandCount = 0 ∧
      t.cabinet.lastItem = none ∧ t.cabinet.writeCount = 0)

/-- R184 and R156: in a hold the part takes no frame, no expiry, no tick and no port byte. Each byte clocked at a
port drives a zero byte, the select inputs and the level lines are inputs, and only the commands of the supply
and of the cabinet hold act. -/
def Obligations.HeldPartTakesNothing : Prop :=
  ∀ (s : State) (lines : AnalogLines) (m : PowerMonitor) (c : Instr),
    s.part = Part.held lines m → s.isHeld = true → m.sampleTimer = none → actsInHold c = false →
      let zeros := fun (q : PortId) (n : Nat) (u : State) =>
        u.modTx q fun t => { t with dataOut := t.dataOut ++ List.replicate n 0 }
      (∀ q n, portBytes c = some (q, n) → exec c s = .next (zeros q n s)) ∧
      (∀ q, c = .selectAssert q → exec c s = .next (s.modTx q fun t => { t with select := true })) ∧
      (∀ q bytes early, c = .selectDeassert q bytes early →
        exec c s = .next ((zeros q bytes.length s).modTx q fun t =>
          { t with select := false, state := .deselected, byteCount := 0, burst := none, written := [] })) ∧
      (∀ r tag v, c = .settled r tag v → exec c s = .next (s.modPart (Part.setLine (.rcu r) v))) ∧
      (portBytes c = none → (∀ q, c ≠ .selectAssert q) → (∀ q bytes early, c ≠ .selectDeassert q bytes early) →
        (∀ r tag v, c ≠ .settled r tag v) → exec c s = .next s)

/-- R183, R185: the part is released when its last hold cause ends, and starts all that R185 lists. With a
Channel List kept through a cabinet reset, a BACKGROUND_FULL sweep is requested too, and RCU 0 is granted. A
deassertion that a new assertion has overtaken releases nothing (R186 as the model reads it, log 33). -/
def Obligations.ReleaseStartsThePart : Prop :=
  (∀ (s : State) (lines : AnalogLines) (m : PowerMonitor) (v : Microvolts), s.part = Part.held lines m →
    m.sampleTimer = none → m.level = .normal → s.settings.listHasItem = false →
    (m.supplyLow = true → m.reasserted = false → m.cabinetHold = none →
      exec (.brownOutDeassert v) s = .next (((s.setBattery v).endSupplyLow).release)) ∧
    (m.supplyLow = true → m.reasserted = true ∨ m.cabinetHold.isSome = true →
      ∃ t, exec (.brownOutDeassert v) s = .next t ∧ t.isHeld = true ∧ t.settings = s.settings) ∧
    (m.supplyLow = false → m.cabinetHold.isSome = true →
      exec (.cabinetHoldEnd v) s = .next (((s.setBattery v).endCabinetHold).release)) ∧
    (m.supplyLow = true → m.cabinetHold.isSome = true →
      ∃ t, exec (.cabinetHoldEnd v) s = .next t ∧ t.isHeld = true ∧ t.settings = s.settings) ∧
    (∀ t, t = ((s.setBattery v).endSupplyLow).release ∨ t = ((s.setBattery v).endCabinetHold).release →
      t.part.frameClock = some 10000 ∧ t.part.secondTimer = some 1000000 ∧
      t.part.power.sampleTimer = some 2000000 ∧
      t.part.converter.current = some (Conversion.begin .battery v) ∧
      t.part.ageTimer = some (s.settings.agePeriod * 1000000) ∧
      t.part.survey.timer = some (s.settings.surveyPeriod * 1000000) ∧
      (∀ r, (t.part.radio r).condition = .booting ∧ (t.part.radio r).readyTimer = some 12000000 ∧
        (t.part.radio r).holder = none) ∧
      t.part.survey.state = .notConfigured ∧ t.part.notices.resetOccurred = true ∧
      t.panelA.notices.stateChanged = true ∧ t.panelB.notices.stateChanged = true ∧
      (∀ q, (t.tx q).state = if (s.tx q).select then .waitDeselect else .deselected))) ∧
  (∀ (s : State) (lines : AnalogLines) (m : PowerMonitor) (v : Microvolts), s.part = Part.held lines m →
    m.level = .normal → m.supplyLow = false → m.cabinetHold.isSome = true → s.settings.listHasItem = true →
      ∃ t, exec (.cabinetHoldEnd v) s = .next t ∧ t.part.survey.state = .sweeping ∧
        t.part.survey.kind = some .full ∧ t.part.radio0.holder = some .survey ∧
        t.part.radio0.sweep = some (Sweep.create .full) ∧ t.part.radio1.holder = none ∧
        t.part.radio0.condition = .booting ∧ t.part.radio1.condition = .booting ∧ t.isHeld = false)

/-! ## Module links -/

/-- A frame that linkFrame builds is read back with its kind, tag and parameters (R187), at every count the
format admits, and the receiver takes its bytes as one frame. A few order frames are written out byte by byte
from Tables 11-2 and 11-3. -/
def Obligations.FramesFollowTheTables : Prop :=
  ((∀ (kind tag : Byte) (params : List Byte), params.length ≤ 24 →
    parseFrame (linkFrame kind tag params) = frameOf kind.toNat tag.toNat params) ∧
  ∀ (s : State) (r : RcuId) (kind tag : Byte) (params : List Byte) (f : ModuleFrame),
    s.hears r → params.length ≤ 24 → frameOf kind.toNat tag.toNat params = some f →
      s.receive r (linkFrame kind tag params) = s.conclude (s.part.takeFrame s.settings r f)) ∧
  (Order.wake.frame 9 = [1, 9, 0, 8] ∧
  (Order.measure { band := 2, channel := 1410 }).frame 3 = [3, 3, 3, 2, 5, 130, 134] ∧
  (Order.attach { band := 1, channel := 220 } .limited).frame 4 = [5, 4, 4, 2, 1, 0, 220, 218] ∧
  Order.attachAny.frame 15 = [5, 15, 4, 3, 0, 0, 0, 13] ∧
  (Order.dial [1, 1, 2]).frame 5 = [6, 5, 4, 3, 1, 1, 2, 6] ∧
  (Order.camp { key := { band := 0, channel := 640 }, carrier := 118 }).frame 1 =
    [11, 1, 5, 0, 2, 128, 0, 118, 251] ∧
  cancelFrame 4 5 = [12, 5, 1, 4, 12])

/-- R57: an order goes out with the tag of the counter, which moves on by one, from 15 to 1. R59, Table 4-4:
the outcome limits, and which expiry is a failure; R61: which cancels a RELEASE follows. -/
def Obligations.OrdersTakeTagAndLimit : Prop :=
  (∀ (x : Radio) (o : Order) (i : Issuer),
    x.send o i = { x with
      slot := some { order := o, tag := x.tagCounter, issuer := i, phase := .ackWait, limit := some 500000,
                     cancel := none },
      tagCounter := if x.tagCounter < 15 then x.tagCounter + 1 else 1,
      txQueue := x.txQueue ++ [o.frame x.tagCounter] } ∧
    (x.offer o = if x.slot = none ∧ o.allowedIn x.condition = true then x.send o .holder else x)) ∧
  (∀ (k : Key) (a : Access) (digits : List Nat) (n : SiteNote) (c : CarrierKey),
    Order.wake.outcomeLimit = 2000000 ∧ Order.doze.outcomeLimit = 2000000 ∧
    (Order.measure k).outcomeLimit = 200000 ∧ (Order.listen k).outcomeLimit = 2000000 ∧
    (Order.attach k a).outcomeLimit = 15000000 ∧ Order.attachAny.outcomeLimit = 30000000 ∧
    (Order.dial digits).outcomeLimit = 20000000 ∧ (Order.sendNote n).outcomeLimit = 8000000 ∧
    Order.answer.outcomeLimit = 5000000 ∧ Order.reject.outcomeLimit = 5000000 ∧
    Order.release.outcomeLimit = 5000000 ∧ (Order.camp c).outcomeLimit = 10000000 ∧
    (∀ o : Order, o.failsSoft = true ↔ (∃ k, o = .listen k) ∨ (∃ k a, o = .attach k a) ∨ o = .attachAny ∨
      (∃ l, o = .dial l) ∨ (∃ n, o = .sendNote n) ∨ o = .reject ∨ o = .release) ∧
    (∀ o : Order, o.needsRelease = true ↔ (∃ k a, o = .attach k a) ∨ o = .attachAny ∨ (∃ l, o = .dial l) ∨
      o = .answer))

/-- R57: an acknowledgement with the tag of an order in ACK_WAIT starts its outcome limit. R61: one with the
tag of a CANCEL in ACK_WAIT starts the CANCEL's limit of 2 s. Any other changes nothing in the slot. -/
def Obligations.AcknowledgementStartsTheLimit : Prop :=
  ∀ (s : State) (r : RcuId) (tag : Byte), s.hears r → 1 ≤ tag.toNat → tag.toNat ≤ 15 →
    (∀ q : Pending, (s.part.radio r).slot = some q → q.phase = .ackWait → q.tag = tag.toNat →
      exec (.moduleAcknowledgement r tag) s = .next (s.conclude (s.part.modRadio r fun x =>
        { x with slot := some { q with phase := .outcomeWait, limit := some q.order.outcomeLimit } }))) ∧
    (∀ (q : Pending) (c : Cancel), (s.part.radio r).slot = some q → q.phase = .retired →
      q.cancel = some c → c.phase = .ackWait → c.tag = tag.toNat →
      exec (.moduleAcknowledgement r tag) s = .next (s.conclude (s.part.modRadio r fun x =>
        { x with slot := some { q with cancel := some { c with phase := .doneWait, limit := 2000000 } } }))) ∧
    ((∀ q : Pending, (s.part.radio r).slot = some q →
        ¬ (q.phase = .ackWait ∧ q.tag = tag.toNat) ∧
        ∀ c, q.cancel = some c → ¬ (c.phase = .ackWait ∧ c.tag = tag.toNat)) →
      exec (.moduleAcknowledgement r tag) s = .next (s.conclude s.part))

/-- R58: an outcome of the order's kind with its tag is taken in ACK_WAIT and OUTCOME_WAIT. The slot empties,
the condition changes as R70 has it, the module is proved (R77), and the holder of a holder's order is told.
An outcome with a stray tag, of a RETIRED order or of a foreign kind is discarded (R61, R63). Table 4-4 and R188:
which outcomes answer which order, and no other does. -/
def Obligations.OutcomesAreTakenByTag : Prop :=
  (∀ (s : State) (r : RcuId) (q : Pending) (o : ModuleOutcome) (tag : Nat),
    (s.part.radio r).slot = some q → q.tag = tag → q.phase ≠ .retired → q.order.answeredBy o = true →
    o ≠ .cancelDone →
      let emptied := s.part.modRadio r fun x => { x with slot := none }
      let changed := ((emptied.applyOutcome r q.order o).startAnswerTimer s.settings r o).prove r
      s.part.outcomeArrives s.settings r o tag =
        if q.issuer = .holder then changed.report s.settings r q.order o else changed) ∧
  (∀ (g : Settings) (p : Part) (r : RcuId) (o : ModuleOutcome) (tag : Nat),
    ((p.radio r).slot = none → p.outcomeArrives g r o tag = p) ∧
    (∀ q : Pending, (p.radio r).slot = some q →
      (o ≠ .cancelDone → q.tag ≠ tag ∨ q.phase = .retired ∨ q.order.answeredBy o = false →
        p.outcomeArrives g r o tag = p) ∧
      (o = .cancelDone → (∀ c, q.cancel = some c → c.tag ≠ tag) → p.outcomeArrives g r o tag = p))) ∧
  (∀ (p : Part) (r : RcuId), let q := p.prove r
    (q.radio r).proving = false ∧
    ((p.radio r).proving = true → (q.radio r).faultCount = 0 ∧
      ((p.radio r).faultCount ≠ 0 → q.notices.radioChanged = true)) ∧
    ((p.radio r).proving = false → q = p) ∧
    q.table = p.table ∧ q.radio r.other = p.radio r.other ∧ (∀ k, q.call k = p.call k) ∧
    q.claims = p.claims ∧ (q.radio r).condition = (p.radio r).condition ∧ (q.radio r).slot = (p.radio r).slot) ∧
  (∀ (o : Order) (x : ModuleOutcome), o.answeredBy x = true ↔
    (x = .done ∧ (o = .wake ∨ o = .doze ∨ o = .answer ∨ o = .reject ∨ o = .release)) ∨
    (x = .settled ∧ ∃ k, o = .measure k) ∨
    ((x = .notHeard ∨ ∃ c kind b, x = .heard c kind b) ∧ ∃ k, o = .listen k) ∨
    ((x = .rejectedBarred ∨ x = .rejectedCongested ∨ x = .rejectedSubscription ∨ x = .noCell) ∧
      (o = .attachAny ∨ ∃ k a, o = .attach k a)) ∨
    ((∃ report, x = .accepted report) ∧ ∃ k a, o = .attach k a) ∨
    ((∃ cell, x = .accepted (some cell)) ∧ o = .attachAny) ∨
    ((x = .alerting ∨ x = .answered ∨ x = .dialRejected) ∧ ∃ l, o = .dial l) ∨
    ((x = .delivered ∨ x = .notDelivered) ∧ ∃ n, o = .sendNote n) ∨
    ((x = .camped ∨ x = .noCell) ∧ ∃ c, o = .camp c))

/-- R70, Table 4-5: the condition changes of outcomes, and no other. -/
def Obligations.OutcomesChangeTheCondition : Prop :=
  ∀ (g : Settings) (p : Part) (r : RcuId) (o : Order) (x : ModuleOutcome),
    let before := (p.radio r).condition
    let after := ((p.applyOutcome r o x).radio r).condition
    o.answeredBy x = true →
      (o = .wake → before = .waking → after = .awake) ∧
      (o = .doze → after = before) ∧
      ((∃ l, o = .dial l) → before = .awake → x = .alerting ∨ x = .answered → after = .inCall) ∧
      (o = .answer → before = .awake → after = .inCall) ∧
      ((∃ c, o = .camp c) → before = .awake → x = .camped → after = .camped) ∧
      (o = .release → before = .inCall → after = .awake ∧
        ((p.applyOutcome r o x).radio r).answerTimer = none) ∧
      (o = .release → before = .awake → after = .awake) ∧
      ((∃ k a, o = .attach k a) ∨ o = .attachAny ∨ o = .reject ∨ x = .dialRejected ∨ x = .noCell →
        p.applyOutcome r o x = p) ∧
      ((p.applyOutcome r o x).startAnswerTimer g r x).radio r.other = p.radio r.other ∧
      (x = .alerting → after = .inCall →
        (((p.applyOutcome r o x).startAnswerTimer g r x).radio r).answerTimer =
          some (g.answerTimeout * 1000000))

/-- R60: a request to abandon retires a pending order of the holder and sends its CANCEL. It finds an EMPTY
slot, a RETIRED order and an order of the RCU's own as they are. R61: CANCEL_DONE ends the cancel, and after
an ATTACH, a DIAL or an ANSWER the RCU sends its own RELEASE. -/
def Obligations.CancelsRetireTheOrder : Prop :=
  (∀ (x : Radio),
    (x.slot = none → x.abandon = { x with answerTimer := none }) ∧
    (∀ q : Pending, x.slot = some q →
      (q.issuer = .holder → q.phase ≠ .retired →
        x.abandon = { x with
          slot := some { q with
            phase := .retired, limit := none,
            cancel := some { tag := x.tagCounter, phase := .ackWait, limit := 500000 } },
          tagCounter := if x.tagCounter < 15 then x.tagCounter + 1 else 1,
          txQueue := x.txQueue ++ [cancelFrame q.tag x.tagCounter], answerTimer := none }) ∧
      (q.issuer = .rcu ∨ q.phase = .retired → x.abandon = { x with answerTimer := none }))) ∧
  (∀ (s : State) (r : RcuId) (tag : Byte) (q : Pending) (c : Cancel), s.hears r →
    (s.part.radio r).slot = some q → q.cancel = some c → c.tag = tag.toNat → 1 ≤ tag.toNat →
    tag.toNat ≤ 15 →
      exec (.cancelDone r tag) s = .next (s.conclude ((s.part.modRadio r fun x =>
        if q.order.needsRelease then Radio.send .release .rcu { x with slot := none }
        else { x with slot := none }).prove r)))

/-- R187: a gap empties the receiver, wherever in a frame it comes, and bytes of a frame whose count is above 24
are discarded until a gap. R55, R188: a complete frame that fails a test, or that finds the supply off, stops no
limit, counts no fault and reaches no holder. -/
def Obligations.BadFramesReachNoOne : Prop :=
  (∀ (s : State) (r : RcuId) (kind tag count : Byte) (rest : List Byte), s.listens r →
    exec (.linkGap r []) s = .next s ∧
    (24 < count.toNat →
      exec (.malformedFrame r (kind :: tag :: count :: rest)) s =
        .next (s.modPart fun p => p.modRadio r fun x => { x with receiver := .discarding }) ∧
      exec (.linkGap r (kind :: tag :: count :: rest)) s = .next s) ∧
    exec (.linkGap r [kind]) s = .next s ∧ exec (.linkGap r [kind, tag]) s = .next s) ∧
  (∀ (s : State) (r : RcuId) (done rest : List Byte), s.isHeld = false →
    let emptied : Host.Outcome State Fault Refusal :=
      .next (s.modPart fun p => p.modRadio r fun x => { x with receiver := .empty })
    ((s.part.radio r).receiver = .discarding → exec (.linkGap r rest) s = emptied) ∧
    ((s.part.radio r).receiver = (if done = [] then .empty else .partly done) →
      (done ++ rest).length < 3 ∨ (∃ kind tag count more, done ++ rest = kind :: tag :: count :: more ∧
        count.toNat ≤ 24 ∧ more.length ≤ count.toNat) →
      exec (.linkGap r rest) s = emptied)) ∧
  (∀ (s : State) (r : RcuId) (kind tag : Byte) (params : List Byte) (check : Byte), s.listens r →
    params.length ≤ 24 →
      let bytes := kind :: tag :: toByte params.length :: params ++ [check]
      (check ≠ checkByte (kind :: tag :: toByte params.length :: params) ∨
        frameOf kind.toNat tag.toNat params = none ∨ (s.part.radio r).supplyOn = false) →
      exec (.discardedFrame r bytes) s = .next (s.conclude s.part))

/-- Every outcome frame whose tag and fields the formats admit reaches the RCU as that outcome (Table 11-2). -/
def Obligations.OutcomeFramesArrive : Prop :=
  ∀ (s : State) (r : RcuId) (tag : Byte), s.hears r → 1 ≤ tag.toNat → tag.toNat ≤ 15 →
    let arrives := fun (o : ModuleOutcome) (u : State) =>
      (Host.Outcome.next (u.conclude (u.part.outcomeArrives s.settings r o tag.toNat)) :
        Host.Outcome State Fault Refusal)
    (∀ v, exec (.settled r tag v) s = arrives .settled (s.modPart (Part.setLine (.rcu r) v))) ∧
    exec (.notHeard r tag) s = arrives .notHeard s ∧
    exec (.rejectedBarred r tag) s = arrives .rejectedBarred s ∧
    exec (.rejectedCongested r tag) s = arrives .rejectedCongested s ∧
    exec (.rejectedSubscription r tag) s = arrives .rejectedSubscription s ∧
    exec (.noCell r tag) s = arrives .noCell s ∧ exec (.alerting r tag) s = arrives .alerting s ∧
    exec (.answered r tag) s = arrives .answered s ∧
    exec (.dialRejected r tag) s = arrives .dialRejected s ∧
    exec (.delivered r tag) s = arrives .delivered s ∧
    exec (.notDelivered r tag) s = arrives .notDelivered s ∧
    exec (.done r tag) s = arrives .done s ∧ exec (.camped r tag) s = arrives .camped s ∧
    exec (.cancelDone r tag) s = arrives .cancelDone s ∧
    exec (.accepted r tag none) s = arrives (.accepted none) s ∧
    (∀ c : CellReport, c.inRange = true → ∃ kind barring,
      accessKindOf c.kind.toNat = some kind ∧ barringOf c.barring.toNat = some barring ∧
      exec (.accepted r tag (some c)) s = arrives (.accepted (some
        ({ key := { band := c.band.toNat, channel := c.channel.toNat }, carrier := c.carrier.toNat },
          kind, barring))) s) ∧
    (∀ (carrier : BitVec 16) (k b : Byte), carrierInRange carrier = true → codeInRange k = true →
      codeInRange b = true → ∃ kind barring,
      accessKindOf k.toNat = some kind ∧ barringOf b.toNat = some barring ∧
      exec (.heard r tag carrier k b) s = arrives (.heard carrier.toNat kind barring) s)

/-- R69: READY in BOOTING ends the boot and sets the proving mark. R65, R75: in any other powered condition it
is a module fault. R53: at the instant of an outcome that fault finds the next item of a sweep not begun, and takes its
MEASURE back (the model's reading, log 28, DEDUCED). Another notice in a condition in which it is not taken is
discarded. -/
def Obligations.ReadyAndMisplacedNotices : Prop :=
  (∀ (s : State) (r : RcuId), s.hears r →
    ((s.part.radio r).condition = .booting →
      exec (.ready r) s = .next (s.conclude (s.part.modRadio r fun x =>
        { x with readyTimer := none, condition := .awake, proving := true }))) ∧
    ((s.part.radio r).condition ≠ .booting →
      exec (.ready r) s = .next (s.conclude ((s.part.unbeginItem r).moduleFault s.settings r)))) ∧
  (∀ (p : Part) (r : RcuId), ((p.radio r).begunNow = false → p.unbeginItem r = p) ∧
    ((p.radio r).begunNow = true → p.unbeginItem r = p.modRadio r fun x =>
      { x with slot := none, tagCounter := if 1 < x.tagCounter then x.tagCounter - 1 else 15,
               txQueue := x.txQueue.dropLast })) ∧
  (∀ (s : State) (r : RcuId), s.hears r →
    ((s.part.radio r).condition ≠ .inCall →
      exec (.linkLost r) s = .next (s.conclude s.part) ∧ exec (.farRelease r) s = .next (s.conclude s.part)) ∧
    ((s.part.radio r).condition ≠ .inCall ∨ (s.part.radio r).answerTimer = none →
      exec (.answeredNotice r) s = .next (s.conclude s.part)) ∧
    ((s.part.radio r).condition ≠ .camped →
      exec (.paged r) s = .next (s.conclude s.part) ∧ exec (.cellLost r) s = .next (s.conclude s.part)))

/-! ## Module faults and recovery -/

/-- R76, R68, R81: a module fault on an RCU, whoever holds it. It sends no CANCEL, and
leaves the tag counter and the frames sent as they are (R53, R57). R91, R53, R122, R134: what its holder loses with it.
A record requeues, and its requeue is resolved as a claim; in CLEARING and ALERTING_IN it goes IDLE. R57, R59,
R61, R69, R75: the expiries that are module faults. That one which finds its limit stopped leaves the state as it
is (an EMPTY slot, an RCU not BOOTING) is the model's choice (log 25), and so is that the cursor stays when the plan
is emptied (log 18, DESIGN CHOICE). The last cause MODULE_FAULT of a record revoked in CLEARING is the model's
reading (log 13, DEDUCED). -/
def Obligations.ModuleFaultsTakeTheRadioDown : Prop :=
  (∀ (g : Settings) (p : Part) (r : RcuId), let q := p.moduleFault g r
    (q.radio r).faultCount = min 3 ((p.radio r).faultCount + 1) ∧
    ((p.radio r).faultCount < 2 → (q.radio r).condition = .faulted ∧
      (q.radio r).recoveryTimer = some 60000000) ∧
    (2 ≤ (p.radio r).faultCount → (q.radio r).condition = .disabled) ∧
    (q.radio r).supplyOn = false ∧ (q.radio r).slot = none ∧ (q.radio r).answerTimer = none ∧
    (q.radio r).readyTimer = none ∧ (q.radio r).dozeTimer = none ∧ (q.radio r).receiver = .empty ∧
    (q.radio r).measurement.phase = .none ∧ (q.radio r).gate.mode = .idle ∧
    (q.radio r).proving = false ∧ (q.radio r).holder = none ∧ q.notices.radioChanged = true ∧
    (q.radio r).txQueue = (p.radio r).txQueue ∧ (q.radio r).tagCounter = (p.radio r).tagCounter) ∧
  (∀ (g : Settings) (p : Part) (r : RcuId), let q := p.moduleFault g r
    ((p.radio r).holder = none → q.claims = p.claims ∧ q.window = p.window ∧ ∀ k, q.call k = p.call k) ∧
    ((p.radio r).holder = some .window → q.claims = p.claims ∧ q.window = none ∧ ∀ k, q.call k = p.call k) ∧
    ((p.radio r).holder = some .survey → q.claims = p.claims ∧ (q.radio r).sweep = none ∧
      q.survey = { p.survey with state := if g.listHasItem then .idle else .notConfigured, kind := none } ∧
      ∀ k, q.call k = p.call k) ∧
    (∀ k : RecId, (p.radio r).holder = some k.holder → let c := p.call k
      let requeues := fun (c' : CallRec) => ∃ u : Part,
        q = (u.claim g { claimant := k.holder, requeued := true }).raiseRadioChanged ∧ u.call k = c' ∧
        (∀ k', k' ≠ k → u.call k' = p.call k') ∧ u.claims = p.claims ∧ (u.radio r).sweep = none ∧
        (u.radio r).holder = none ∧ u.radio r.other = p.radio r.other ∧ u.stack = p.stack ∧
        (∀ w d, p.window = some w → k.side = some d → w.state = .lent d → u.window = none) ∧
        ((∀ w d, p.window = some w → k.side = some d → w.state ≠ .lent d) → u.window = p.window) ∧
        (∀ d, k.side = some d → c.state = .connected → u.voice d = none) ∧
        (∀ i e, u.entryAt i = some e → p.entryAt i = some e) ∧
        (∀ i e, p.entryAt i = some e → e.age ≠ 15 → u.entryAt i = some e)
      (c.state = .seeking ∨ c.state = .attaching ∨ c.state = .dialling ∨ c.state = .ringing ∨
          c.state = .announcing →
        requeues { c with plan := [], attempt := none, step := .start, pauseTimer := none,
                          lastCause := .moduleFault, state := .queued }) ∧
      (c.state = .connected →
        requeues { c with fadeCount := 0, fading := false, attempt := none, plan := [], rounds := 0,
                          droppedKey := (c.attempt.bind (·.cell)).map (·.key), lastCause := .moduleFault,
                          regain := true, regainTimer := some (g.regainWindow * 1000000), state := .queued }) ∧
      (c.state = .clearing ∨ c.state = .alertingIn → (p.radio r.other).holder ≠ some k.holder →
        (q.call k).state = .idle ∧ (q.call k).lastCause = .moduleFault ∧ q.rcuOf k.holder = none ∧
        q.waits k.holder = false))) ∧
  (∀ (s : State) (r : RcuId), s.isHeld = false →
    let faulted : Host.Outcome State Fault Refusal := .next (s.conclude (s.part.moduleFault s.settings r))
    (∀ q : Pending, (s.part.radio r).slot = some q →
      (q.phase = .ackWait ∨ (∃ c, q.cancel = some c ∧ c.phase = .ackWait) →
        exec (.ackLimitExpiry r) s = faulted) ∧
      ((q.phase = .outcomeWait ∧ q.order.failsSoft = false) ∨ (∃ c, q.cancel = some c ∧ c.phase = .doneWait) →
        exec (.faultExpiry r) s = faulted)) ∧
    ((s.part.radio r).condition = .booting → (s.part.radio r).readyTimer.isSome = true →
      exec (.readyTimerExpiry r) s = faulted) ∧
    ((s.part.radio r).slot = none → exec (.ackLimitExpiry r) s = .next s ∧ exec (.faultExpiry r) s = .next s ∧
      exec (.failureExpiry r) s = .next s) ∧
    ((s.part.radio r).condition ≠ .booting → exec (.readyTimerExpiry r) s = .next s))

/-- R72: at the doze timer's expiry the RCU sends DOZE as its own order, and is in DOZE from the sending. R78,
R79, R74: an RCU leaves FAULTED at its recovery timer's expiry, and FAULTED or DISABLED at RESTORE_RADIO, for
BOOTING, or in SHED for OFF if it is not then the reserve. -/
def Obligations.RadiosDozeAndRecover : Prop :=
  (∀ (s : State) (r : RcuId), s.isHeld = false → (s.part.radio r).dozeTimer.isSome = true →
    (s.part.radio r).condition = .awake → (s.part.radio r).slot = none → (s.part.radio r).holder = none →
      exec (.dozeTimerExpiry r) s = .next (s.conclude (s.part.modRadio r fun x =>
        { Radio.send .doze .rcu x with condition := .doze, dozeTimer := none }))) ∧
  (∀ (s : State) (r : RcuId), s.isHeld = false →
    let stays := s.part.power.level ≠ .shed ∨ r = .rcu0 ∨ s.part.radio0.broken = true
    let returned := fun (x : Radio) =>
      (s.part.setRadio r { x with recoveryTimer := none }).raiseRadioChanged
    ((s.part.radio r).condition = .faulted → (s.part.radio r).recoveryTimer.isSome = true →
      (stays → exec (.recoveryTimerExpiry r) s =
        .next (s.conclude (returned { s.part.radio r with condition := .booting, readyTimer := some 12000000 }))) ∧
      (¬ stays → exec (.recoveryTimerExpiry r) s =
        .next (s.conclude (returned { s.part.radio r with condition := .off })))) ∧
    ((s.part.radio r).broken = true → stays →
      s.part.restoreRadio r = returned { s.part.radio r with
        condition := .booting, readyTimer := some 12000000, faultCount := 0, proving := false }) ∧
    ((s.part.radio r).broken = true → ¬ stays →
      s.part.restoreRadio r = returned { s.part.radio r with
        condition := .off, faultCount := 0, proving := false }))

/-- R62: a failure expiry of a holder's RELEASE or REJECT, or of the RCU's own RELEASE. -/
def Obligations.ReleaseExpiryIsDone : Prop :=
  ∀ (s : State) (r : RcuId) (q : Pending), s.isHeld = false → (s.part.radio r).slot = some q →
    q.phase = .outcomeWait →
    (q.order = .release → q.issuer = .rcu →
      exec (.failureExpiry r) s = .next (s.conclude
        ((s.part.modRadio r fun x => { x with slot := none }).applyOutcome r .release .done))) ∧
    (q.order = .release ∨ q.order = .reject → q.issuer = .holder →
      exec (.failureExpiry r) s = .next (s.conclude
        (((s.part.report s.settings r q.order .done).applyOutcome r q.order .done).abandon r)))

/-! ## Calls: attaching and dialling -/

/-- R103, R104, R164, R162: a subscribed carrier, the access of a try, and the destination and digits of a DIAL
offered on a ready RCU. A TEST record with no OPS digits makes no DIAL, and its try fails. -/
def Obligations.DialsFollowTheAccess : Prop :=
  (∀ (g : Settings) (carrier : Nat),
    (g.subscribed carrier = true → ∃ o, some o ∈ g.operators ∧ o.carrier = carrier ∧ o.subscribed = true) ∧
    (∀ o, g.Ok → some o ∈ g.operators → o.carrier = carrier → g.subscribed carrier = o.subscribed)) ∧
  (∀ (g : Settings) (e : Entry), e.accessFor g = .full ↔ g.subscribed e.carrier = true ∧ e.fullRefused = false) ∧
  ∀ (g : Settings) (p : Part) (k : RecId) (r : RcuId) (a : Attempt), (p.call k).attempt = some a →
    (p.radio r).condition = .awake → (p.radio r).slot = none →
      let d : Destination := if k = .test then .ops
        else if a.access = .limited ∨ ((p.call k).regain = true ∧ (p.call k).answeredDest = some .publicNumber) ∨
          g.opsDigits = [] ∨ a.opsFailed = true then .publicNumber
        else .ops
      (k ≠ .test ∨ g.opsDigits ≠ [] →
        p.offerDial g k r = (p.modCall k fun c =>
          { c with attempt := some { a with destination := d }, dialled := true, state := .dialling }).modRadio r
            (Radio.send (.dial (if d = .ops then g.opsDigits else g.publicDigits)) .holder)) ∧
      (k = .test → g.opsDigits = [] →
        p.offerDial g k r = p.modCall k fun c =>
          { c with attempt := none, cursor := if c.cursor < 6 then c.cursor + 1 else 6, state := .seeking,
                   step := .next, lastCause := .dialRejected })

/-- R105, R16: ACCEPTED on a plan item returns its failures to 0, and the record dials on the attachment. R108,
R188: a blind acceptance must name its cell; without one it is discarded. R17, R9, R15: what the table makes of
the report, and the plan of one item that the record then has. -/
def Obligations.AcceptedAttachesDial : Prop :=
  (∀ (s : State) (r : RcuId) (k : RecId) (tag : Byte) (q : Pending) (a : Attempt), s.hears r →
    s.part.awaits k r q → q.tag = tag.toNat → 1 ≤ tag.toNat → tag.toNat ≤ 15 →
    (s.part.call k).state = .attaching → (s.part.call k).attempt = some a →
      (∀ key access i report, q.order = .attach key access → a.target = .slot i →
        report.all CellReport.inRange = true →
        exec (.accepted r tag report) s = .next (s.conclude
          ((((s.part.answeredOn r).modEntry i fun e => { e with failures := 0 }).modCall k fun c =>
            { c with attempt := some { a with attached := true } }).offerDial s.settings k r))) ∧
      (q.order = .attachAny → a.target = .anyCell → exec (.accepted r tag none) s = .next (s.conclude s.part)) ∧
      (∀ c : CellReport, q.order = .attachAny → a.target = .anyCell → c.inRange = true →
        ∃ kind barring, accessKindOf c.kind.toNat = some kind ∧ barringOf c.barring.toNat = some barring ∧
        exec (.accepted r tag (some c)) s = .next (s.conclude
          (((s.part.answeredOn r).blindAccepted s.settings k a
            { key := { band := c.band.toNat, channel := c.channel.toNat }, carrier := c.carrier.toNat }
            kind barring).offerDial s.settings k r)))) ∧
  (∀ (g : Settings) (p : Part) (k : RecId) (a : Attempt) (cell : CarrierKey) (kind : AccessKind)
    (barring : Barring), let q := p.insertBlind g cell kind barring
    (∀ i, p.slotOf cell.key = some i → q = p.modEntry i fun e =>
      { e with carrier := cell.carrier, kind := kind, barring := barring, failures := 0,
               fullRefused := if cell.carrier = e.carrier then e.fullRefused else false }) ∧
    (p.slotOf cell.key = none → q = p.insertNew g
      { key := cell.key, carrier := cell.carrier, kind := kind, level := g.levelFloor, quality := 0, age := 0,
        failures := 0, barring := barring, fullRefused := false }) ∧
    (∀ i e, q.slotOf cell.key = some i → q.entryAt i = some e →
      p.blindAccepted g k a cell kind barring = q.modCall k fun c =>
        { c with plan := [{ slot := i, score := if e.eligible g then e.score g else 0 }], cursor := 0,
                 attempt := some { a with target := .slot i, cell := some cell, attached := true } }))

/-- R106: a FULL attach of a panel record that is refused turns to LIMITED on the same cell, and the cursor
does not move. R107, R112, R118: what fails a try at its attach, with the effect on the entry and the last
cause. -/
def Obligations.RefusedAttachesTurnOrEnd : Prop :=
  (∀ (s : State) (r : RcuId) (d : Side) (tag : Byte) (q : Pending) (key : Key) (a : Attempt) (i : Nat)
    (cell : CarrierKey), s.hears r → s.part.awaits d.record r q → q.tag = tag.toNat → 1 ≤ tag.toNat →
    tag.toNat ≤ 15 → q.order = .attach key .full → (s.part.call d.record).state = .attaching →
    (s.part.call d.record).attempt = some a → a.access = .full → a.target = .slot i → a.cell = some cell →
      let turns := fun (cause : Cause) (f : Entry → Entry) =>
        ((((s.part.answeredOn r).modEntry i f).modCall d.record fun c =>
          { c with lastCause := cause,
                   attempt := some { a with access := .limited, destination := .publicNumber } }).offer r
          (.attach cell.key .limited))
      exec (.rejectedBarred r tag) s = .next (s.conclude (turns .barred fun e =>
        { e with barring := .normalBarred, fullRefused := true })) ∧
      exec (.rejectedSubscription r tag) s = .next (s.conclude (turns .subscription fun e =>
        { e with fullRefused := true }))) ∧
  (∀ (s : State) (r : RcuId) (k : RecId) (tag : Byte) (q : Pending) (a : Attempt), s.hears r →
    s.part.awaits k r q → (∃ key access, q.order = .attach key access) ∨ q.order = .attachAny →
    q.tag = tag.toNat → 1 ≤ tag.toNat → tag.toNat ≤ 15 → (s.part.call k).state = .attaching →
    (s.part.call k).attempt = some a →
      let ends := fun (cause : Cause) (f : Entry → Entry) (p : Part) =>
        (p.modTarget a.target f).modCall k fun c =>
          { c with attempt := none, cursor := if c.cursor < 6 then c.cursor + 1 else 6, state := .seeking,
                   step := .next, lastCause := cause }
      let failed := fun (e : Entry) => { e with failures := if e.failures < 7 then e.failures + 1 else 7 }
      exec (.rejectedCongested r tag) s = .next (s.conclude (ends .congested failed (s.part.answeredOn r))) ∧
      exec (.noCell r tag) s = .next (s.conclude
        (ends .noCell (fun e => { failed e with level := 0 }) (s.part.answeredOn r))) ∧
      (a.access = .limited →
        exec (.rejectedBarred r tag) s = .next (s.conclude
          (ends .barred (fun e => { e with barring := .emergencyBarred }) (s.part.answeredOn r)))) ∧
      (a.access = .full → k = .test →
        exec (.rejectedBarred r tag) s = .next (s.conclude
          (ends .barred (fun e => { e with barring := .normalBarred, fullRefused := true })
            (s.part.answeredOn r)))) ∧
      (a.access = .limited ∨ k = .test →
        exec (.rejectedSubscription r tag) s = .next (s.conclude
          (ends .subscription (fun e => { e with fullRefused := true }) (s.part.answeredOn r)))) ∧
      (q.phase = .outcomeWait →
        exec (.failureExpiry r) s = .next (s.conclude ((ends .attachTimeout failed s.part).abandon r))) ∧
      (∀ (p : Part) (i : Nat) (f : Entry → Entry),
        p.modTarget (.slot i) f = p.modEntry i f ∧ p.modTarget .anyCell f = p))

/-- R109, R111, R114: ALERTING, the answer, and the answer after ALERTING. -/
def Obligations.AnsweredCallsAnnounce : Prop :=
  ∀ (s : State) (r : RcuId) (k : RecId) (a : Attempt), s.hears r → (s.part.call k).attempt = some a →
    let note : SiteNote :=
      { siteCode := s.settings.siteCode, kmPost := s.settings.kmPost, side := k,
        sequence := (s.part.call k).sequence, battery := s.part.power.battery, access := a.access,
        segments := (s.part.call k).segments }
    let announces := fun (p : Part) =>
      (p.modCall k fun c => { c with answeredDest := some a.destination, state := .announcing }).offer r
        (.sendNote note)
    (∀ (tag : Byte) (q : Pending) (digits : List Nat), s.part.awaits k r q → q.order = .dial digits →
      q.tag = tag.toNat → 1 ≤ tag.toNat → tag.toNat ≤ 15 → (s.part.call k).state = .dialling →
      (s.part.radio r).condition = .awake →
        exec (.alerting r tag) s = .next (s.conclude
          (((s.part.modRadio r fun x => { x with
              slot := none, condition := .inCall,
              answerTimer := some (s.settings.answerTimeout * 1000000) }).prove r).modCall k fun c =>
            { c with state := .ringing })) ∧
        exec (.answered r tag) s = .next (s.conclude (announces
          ((s.part.modRadio r fun x => { x with slot := none, condition := .inCall }).prove r)))) ∧
    ((s.part.radio r).holder = some k.holder → (s.part.radio r).condition = .inCall →
      (s.part.radio r).answerTimer.isSome = true → (s.part.call k).state = .ringing →
        exec (.answeredNotice r) s = .next (s.conclude (announces
          (s.part.modRadio r fun x => { x with answerTimer := none }))))

/-- R110, R111, R118: a dial that is rejected or not answered. A panel record whose OPS dial failed releases, to
dial PUBLIC on the same attachment. R62: the failure expiry of a DIAL counts as DIAL_REJECTED and abandons the
order; a RELEASE cannot be offered while its cancel runs. R110, R104, R105: at the ready RCU that follows the record
then dials PUBLIC on the attachment it has. -/
def Obligations.FailedDialsTurnOrEndTheTry : Prop :=
  (∀ (g : Settings) (p : Part) (k : RecId),
    ((Reaction.dialPublic k).enabled p = true ↔ (p.call k).state = .dialling ∧
      (∃ r, p.callRcu k = some r ∧ (p.radio r).condition = .awake ∧ (p.radio r).slot = none) ∧
      ∃ a, (p.call k).attempt = some a ∧ a.destination = .ops ∧ a.opsFailed = true) ∧
    (∀ (d : Side) (r : RcuId) (a : Attempt), k = d.record → (p.call k).attempt = some a → a.opsFailed = true →
      p.callRcu k = some r → (p.radio r).condition = .awake → (p.radio r).slot = none →
        (Reaction.dialPublic k).run g p = (p.modCall k fun c =>
          { c with attempt := some { a with destination := .publicNumber }, dialled := true,
                   state := .dialling }).modRadio r (Radio.send (.dial g.publicDigits) .holder))) ∧
  ∀ (s : State) (r : RcuId) (k : RecId) (a : Attempt), s.hears r → (s.part.call k).attempt = some a →
    (s.part.radio r).holder = some k.holder →
      let turns := fun (cause : Cause) (p : Part) => (p.modCall k fun c =>
        { c with lastCause := cause, state := .dialling, attempt := some { a with opsFailed := true } }).offer r
          .release
      let ends := fun (cause : Cause) (p : Part) => p.modCall k fun c =>
        { c with attempt := none, cursor := if c.cursor < 6 then c.cursor + 1 else 6, state := .seeking,
                 step := .next, lastCause := cause }
      let failed := fun (e : Entry) => { e with failures := if e.failures < 7 then e.failures + 1 else 7 }
      (∀ (tag : Byte) (q : Pending) (digits : List Nat), s.part.awaits k r q → q.order = .dial digits →
        q.tag = tag.toNat → 1 ≤ tag.toNat → tag.toNat ≤ 15 → (s.part.call k).state = .dialling →
        (a.destination = .ops → k ≠ .test →
          exec (.dialRejected r tag) s = .next (s.conclude (turns .dialRejected (s.part.answeredOn r)))) ∧
        (a.destination = .ops → k = .test →
          exec (.dialRejected r tag) s = .next (s.conclude (ends .dialRejected (s.part.answeredOn r)))) ∧
        (a.destination = .publicNumber →
          exec (.dialRejected r tag) s = .next (s.conclude
            (ends .dialRejected ((s.part.answeredOn r).modTarget a.target failed)))) ∧
        (q.phase = .outcomeWait →
          (a.destination = .ops → k ≠ .test →
            exec (.failureExpiry r) s = .next (s.conclude ((s.part.modCall k fun c =>
              { c with lastCause := .dialRejected, state := .dialling,
                       attempt := some { a with opsFailed := true } }).abandon r))) ∧
          (a.destination = .ops → k = .test →
            exec (.failureExpiry r) s = .next (s.conclude ((ends .dialRejected s.part).abandon r))) ∧
          (a.destination = .publicNumber →
            exec (.failureExpiry r) s = .next (s.conclude
              ((ends .dialRejected (s.part.modTarget a.target failed)).abandon r))))) ∧
      ((s.part.call k).state = .ringing → (s.part.radio r).answerTimer.isSome = true →
        let stopped := s.part.modRadio r fun x => { x with answerTimer := none }
        (a.destination = .ops → k ≠ .test →
          exec (.answerTimerExpiry r) s = .next (s.conclude (turns .noAnswer stopped))) ∧
        (a.destination = .publicNumber ∨ k = .test →
          exec (.answerTimerExpiry r) s = .next (s.conclude ((stopped.modCall k fun c =>
            { c with lastCause := .noAnswer, state := .dialling }).offer r .release)))) ∧
      (∀ (tag : Byte) (q : Pending), s.part.awaits k r q → q.order = .release → q.tag = tag.toNat →
        1 ≤ tag.toNat → tag.toNat ≤ 15 → (s.part.call k).state = .dialling →
        let done := ((s.part.modRadio r fun x => { x with slot := none }).applyOutcome r .release .done).prove r
        (a.destination = .ops → a.opsFailed = true → exec (.done r tag) s = .next (s.conclude done)) ∧
        (a.destination = .publicNumber ∨ a.opsFailed = false →
          exec (.done r tag) s = .next (s.conclude (ends (s.part.call k).lastCause done))))

/-! ## Calls: connection, drop, end -/

/-- R116, R117, R128, R33, R38: what a panel record's entry to CONNECTED does. That the Gate Counter stands ARMED,
with the mark of the windows, until the first frame tick of the continuous measurement is the model's choice
(log 21), and so is the 0 of its ticks left until then (log 29). -/
def Obligations.ConnectionClosesTheVoicePath : Prop :=
  ∀ (p : Part) (d : Side) (r : RcuId) (a : Attempt) (cell : CarrierKey), a.cell = some cell →
    (p.radio r).condition = .inCall → let q := p.connect d.record d r a
      q.voice d = some r ∧ q.voice d.other = p.voice d.other ∧
      q.call d.record = { p.call d.record with
        state := .connected,
        segments := if (p.call d.record).segments < 15 then (p.call d.record).segments + 1 else 15,
        fullConnection := (p.call d.record).fullConnection || decide (a.access = .full),
        regain := false, regainTimer := none, fadeCount := 0, fading := false } ∧
      q.call d.other.record = p.call d.other.record ∧ q.test = p.test ∧
      q.stack = cell :: (p.stack.filter fun c => c.key ≠ cell.key).take 3 ∧
      (q.radio r).gate = { mode := .armed, length := 32, ticksLeft := 0, count := 0, windows := true } ∧
      (q.radio r).measurement = { phase := .none, key := some cell.key, gate := 32,
                                  requester := some .callManager, code := none, count := none } ∧
      (q.radio r).condition = .inCall ∧ (q.radio r).holder = (p.radio r).holder ∧
      q.radio r.other = p.radio r.other ∧ q.claims = p.claims ∧ q.window = p.window ∧
      (∀ i e, q.entryAt i = some e → p.entryAt i = some e) ∧
      (∀ i e, p.entryAt i = some e → e.age ≠ 15 → q.entryAt i = some e)

/-- R115, R119: the outcome of the note connects a panel record either way, and ends a test. R62: its failure expiry
counts as NOT_DELIVERED, and the order is abandoned. R141: the DONE of an ANSWER connects the call-back on the
camped cell. That the record holds that cell itself from the page on, and clears it here, is the model's reading
(log 14, DEDUCED). -/
def Obligations.NotesAndAnswersConnect : Prop :=
  ∀ (s : State) (r : RcuId) (k : RecId) (tag : Byte) (q : Pending), s.hears r → s.part.awaits k r q →
    q.tag = tag.toNat → 1 ≤ tag.toNat → tag.toNat ≤ 15 →
      (∀ (note : SiteNote) (a : Attempt), q.order = .sendNote note → (s.part.call k).state = .announcing →
        (s.part.call k).attempt = some a →
          let failed := fun (p : Part) => p.modCall k fun c => { c with lastCause := .noteFailed }
          (∀ d : Side, k = d.record →
            exec (.delivered r tag) s = .next (s.conclude ((s.part.answeredOn r).connect k d r a)) ∧
            exec (.notDelivered r tag) s =
              .next (s.conclude ((failed (s.part.answeredOn r)).connect k d r a)) ∧
            (q.phase = .outcomeWait → exec (.failureExpiry r) s =
              .next (s.conclude (((failed s.part).connect k d r a).abandon r)))) ∧
          (k = .test →
            exec (.delivered r tag) s = .next (s.conclude
              (((s.part.answeredOn r).writeTest .passed).enterClearing .test)) ∧
            exec (.notDelivered r tag) s = .next (s.conclude
              (((failed (s.part.answeredOn r)).writeTest .noteFailed).enterClearing .test)) ∧
            (q.phase = .outcomeWait → exec (.failureExpiry r) s = .next (s.conclude
              ((((failed s.part).writeTest .noteFailed).enterClearing .test).abandon r))))) ∧
      (∀ (d : Side) (cell : CarrierKey), k = d.record → q.order = .answer →
        (s.part.call k).state = .alertingIn → (s.part.call k).pagedCell = some cell →
        (s.part.radio r).condition = .awake →
          ∃ a : Attempt, a.cell = some cell ∧ a.access = .full ∧ a.destination = .ops ∧ a.attached = true ∧
            a.target = ((s.part.slotOf cell.key).map Target.slot).getD .noTarget ∧
            exec (.done r tag) s = .next (s.conclude
              ((((s.part.modRadio r fun x => { x with slot := none, condition := .inCall }).prove r).modCall k
                fun c => { c with attempt := some a, answeredDest := some .ops, answerInHand := false,
                                  pagedCell := none }).connect k d r a)))

/-- R132, R130, R127, R131: what a drop leaves in the record, the Voice Switch and the table. R130: a regain plan is
the dropped cell, the eligible entries of the stacked keys from the top, and the ranking, each slot once, cut at 6. -/
def Obligations.DropsStartARegain : Prop :=
  (∀ (g : Settings) (p : Part) (d : Side) (r : RcuId), let q := p.drop g d.record r
    let c := p.call d.record
    let plan := p.regainPlan g ((c.attempt.bind (·.cell)).map (·.key))
    (c.state = .connected → q.voice d = none) ∧ q.voice d.other = p.voice d.other ∧
    q.call d.record = { c with
      state := .seeking, step := .next, plan := plan, cursor := 0, blindTried := false, dialled := false,
      attempt := none, rounds := 0, regain := true, lastCause := .linkLost, droppedKey := none,
      regainTimer := some (g.regainWindow * 1000000),
      fadeCount := if c.state = .connected then 0 else c.fadeCount,
      fading := if c.state = .connected then false else c.fading } ∧
    (∀ i cell, c.attempt.bind (·.cell) = some cell → p.slotOf cell.key = some i →
      ∃ item, plan.head? = some item ∧ item.slot = i) ∧
    q.call d.other.record = p.call d.other.record ∧ q.stack = p.stack ∧
    (∀ i e, q.entryAt i = some e → p.entryAt i = some e) ∧
    (∀ i e, p.entryAt i = some e → e.age ≠ 15 → q.entryAt i = some e)) ∧
  (∀ (g : Settings) (p : Part) (dropped : Option Key),
    let placed := fun (key : Key) => (p.slotOf key).bind fun i => (p.entryAt i).map fun e => (i, e)
    let first : List PlanItem := (dropped.toList.filterMap placed).map fun x =>
      { slot := x.1, score := if x.2.eligible g then x.2.score g else 0 }
    let stacked : List PlanItem := ((p.stack.filterMap fun c => placed c.key).filter fun x => x.2.eligible g).map
      fun x => { slot := x.1, score := x.2.score g }
    let ranked : List PlanItem := (p.ranking g).map fun x => { slot := x.1, score := x.2.score g }
    let plan := p.regainPlan g dropped
    plan = ((first ++ stacked ++ ranked).foldl
      (fun items x => if x.slot ∈ items.map (·.slot) then items else items ++ [x]) []).take 6 ∧
    plan.length ≤ 6 ∧ (plan.map (·.slot)).Nodup)

/-- R65, R66: LINK_LOST and FAR_RELEASE in IN_CALL, by what stands in the slot. An order of the module's that ended
with the call leaves the slot EMPTY with no CANCEL, a RETIRED one stays with its CANCEL, and the notice goes to the
holder. R132, R133: what it does to a panel record, and R118, R119 to the TEST record. A RELEASE of the holder's
is told as done in its place: R111 for a DIALLING record, whose try then ends or turns to PUBLIC. -/
def Obligations.LossesReachTheRecord : Prop :=
  ∀ (s : State) (r : RcuId), s.hears r → (s.part.radio r).condition = .inCall →
    let left := s.part.leaveInCall r
    let emptied := left.modRadio r fun x => { x with slot := none }
    let lost := fun (p : Part) => exec (.linkLost r) s = .next (s.conclude p)
    let released := fun (p : Part) => exec (.farRelease r) s = .next (s.conclude p)
    (∀ rest : Part,
      ((s.part.radio r).slot = none ∧ rest = left) ∨
      (∃ q, (s.part.radio r).slot = some q ∧ q.phase = .retired ∧ rest = left) ∨
      (∃ q, (s.part.radio r).slot = some q ∧ q.phase ≠ .retired ∧
        ((∃ note, q.order = .sendNote note) ∨ (q.order = .release ∧ q.issuer = .rcu)) ∧ rest = emptied) →
        (∀ d : Side, (s.part.radio r).holder = some d.record.holder → let st := (s.part.call d.record).state
          (st = .ringing ∨ st = .announcing ∨ st = .connected → lost (rest.drop s.settings d.record r)) ∧
          (st = .connected → released (((rest.leaveConnected d.record r).modCall d.record fun c =>
            { c with lastCause := .noCause }).enterClearing d.record)) ∧
          (st = .ringing ∨ st = .announcing → released (rest.drop s.settings d.record r)) ∧
          (st ≠ .ringing → st ≠ .announcing → st ≠ .connected → lost rest ∧ released rest)) ∧
        ((s.part.radio r).holder = some .test → let st := s.part.test.state
          let fails := rest.modCall .test fun c =>
            { c with attempt := none, cursor := if c.cursor < 6 then c.cursor + 1 else 6, state := .seeking,
                     step := .next, lastCause := .linkLost }
          let ends := ((rest.modCall .test fun c => { c with lastCause := .noteFailed }).writeTest
            .noteFailed).enterClearing .test
          (st = .ringing → lost fails ∧ released fails) ∧
          (st = .announcing → lost ends ∧ released ends) ∧
          (st ≠ .ringing → st ≠ .announcing → st ≠ .connected → lost rest ∧ released rest)) ∧
        (((s.part.radio r).holder).bind Holder.record = none → lost rest ∧ released rest)) ∧
    (∀ (k : RecId) (q : Pending), (s.part.radio r).slot = some q → q.order = .release → q.issuer = .holder →
      q.phase ≠ .retired → (s.part.radio r).holder = some k.holder → let c := s.part.call k
        (c.state ≠ .dialling → lost emptied ∧ released emptied) ∧
        (∀ a, c.state = .dialling → c.attempt = some a →
          let fails := emptied.modCall k fun c =>
            { c with attempt := none, cursor := if c.cursor < 6 then c.cursor + 1 else 6, state := .seeking,
                     step := .next }
          (a.destination = .ops → a.opsFailed = true → lost emptied ∧ released emptied) ∧
          (a.destination = .publicNumber ∨ a.opsFailed = false → lost fails ∧ released fails)))

/-- R97, R120, R135, R154: what CALL and HANGUP do in each state of the side's record, with the result the port
records. A refused command has no effect of its own on the inner blocks. -/
def Obligations.PanelCommandsActOnTheRecord : Prop :=
  ∀ (s : State) (d : Side), s.atStart d.port →
    let k := d.record
    let c := s.part.call k
    let taken := fun (code : Byte) (result : CommandResult) (effect : Part) =>
      (Host.Outcome.next (((s.setTx d.port { Transaction.start with
          state := .ignoring, item := some 3, byteCount := 1, written := [code] }).conclude effect).modPanel d
        fun x => { x with
          lastCommand := some code, lastResult := result, commandCount := x.commandCount + 1,
          notices := { x.notices with commandResult := true } }) : Host.Outcome State Fault Refusal)
    (c.state = .idle →
      exec (.call d) s = taken 1 .accepted (Part.claim s.settings { claimant := k.holder, requeued := false }
        (Part.setCall k { CallRec.initial with state := .queued, sequence := s.part.callSequence + 1 }
          { s.part with callSequence := s.part.callSequence + 1 }))) ∧
    (c.state ≠ .idle → exec (.call d) s = taken 1 .refusedState s.part) ∧
    (c.state = .queued →
      exec (.hangup d) s = taken 2 .accepted ((s.part.leaveQueue k.holder).recordIdle k)) ∧
    (c.state = .seeking ∨ c.state = .attaching ∨ c.state = .dialling ∨ c.state = .ringing ∨
        c.state = .announcing → exec (.hangup d) s = taken 2 .accepted (s.part.enterClearing k)) ∧
    (∀ r, c.state = .connected → s.part.callRcu k = some r →
      exec (.hangup d) s = taken 2 .accepted ((s.part.leaveConnected k r).enterClearing k)) ∧
    (c.state = .idle ∨ c.state = .clearing ∨ c.state = .alertingIn →
      exec (.hangup d) s = taken 2 .refusedState s.part) ∧
    (∀ code : Byte, code ≠ 1 → code ≠ 2 → code ≠ 3 →
      exec (.unknownCommand d code) s = taken code .unknown s.part)

/-- R141, R142, R154: ANSWER in ALERTING_IN and elsewhere, and the ring timeout. -/
def Obligations.CallBacksRing : Prop :=
  ∀ (s : State) (d : Side), let c := s.part.call d.record
    (s.atStart d.port →
      let taken := fun (result : CommandResult) (effect : Part) =>
        (Host.Outcome.next (((s.setTx d.port { Transaction.start with
            state := .ignoring, item := some 3, byteCount := 1, written := [3] }).conclude effect).modPanel d
          fun x => { x with
            lastCommand := some 3, lastResult := result, commandCount := x.commandCount + 1,
            notices := { x.notices with commandResult := true } }) : Host.Outcome State Fault Refusal)
      let inHand := s.part.modCall d.record fun c => { c with ringTimer := none, answerInHand := true }
      (c.state = .alertingIn → c.answerInHand = false →
        (∀ r, s.part.callRcu d.record = some r →
          exec (.answer d) s = taken .accepted (inHand.offer r .answer)) ∧
        (s.part.callRcu d.record = none → exec (.answer d) s = taken .accepted inHand)) ∧
      (c.state ≠ .alertingIn ∨ c.answerInHand = true →
        exec (.answer d) s = taken .refusedState s.part)) ∧
    (∀ r, s.part.callRcu d.record = some r → s.isHeld = false → c.state = .alertingIn →
      c.ringTimer.isSome = true →
      exec (.ringTimerExpiry d.record) s = .next (s.conclude
        (((s.part.modCall d.record fun c =>
          { c with ringTimer := none, lastCause := .noAnswer, ringTimedOut := true }).offer r
            .reject).enterClearing d.record)))

/-- R121, R53: what the entry to CLEARING does to the record, the plan's pins and the RCU. A CALL sweep's item that
began at the instant of the outcome before it has not begun: its MEASURE is taken back (log 28). R121: when a
CLEARING record releases a call and when it leaves. R136, R138, R142: where the RCU of a record that leaves CLEARING
goes, and what the record keeps. That the cursor stays when the plan
is emptied (log 18, DESIGN CHOICE) and that the dropped key goes at the entry to CLEARING (log 15, DEDUCED) is
the model's. -/
def Obligations.ClearingEndsTheWorkAndTheHold : Prop :=
  (∀ (p : Part) (k : RecId) (r : RcuId), p.callRcu k = some r → let q := p.enterClearing k
    q.call k = { p.call k with
      state := .clearing, step := .start, plan := [], pauseTimer := none, regainTimer := none,
      ringTimer := none, droppedKey := none } ∧
    (∀ i e, q.entryAt i = some e → p.entryAt i = some e) ∧
    (∀ i e, p.entryAt i = some e → e.age ≠ 15 → q.entryAt i = some e) ∧
    (∀ c : Sweep, (p.radio r).sweep = some c → c.kind = .call k →
      (q.radio r).sweep = none ∧ (q.radio r).measurement.phase = .none ∧ (q.radio r).gate.mode = .idle ∧
      ((p.radio r).begunNow = true → (p.radio r).condition = .awake → (q.radio r).slot = none ∧
        (q.radio r).tagCounter = (if 1 < (p.radio r).tagCounter then (p.radio r).tagCounter - 1 else 15) ∧
        (q.radio r).txQueue = (p.radio r).txQueue.dropLast) ∧
      (∀ o, (p.radio r).begunNow = false → (p.radio r).slot = some o → o.issuer = .holder → o.phase ≠ .retired →
        o.order ≠ .release → o.order ≠ .reject → (q.radio r).slot = some { o with
          phase := .retired, limit := none,
          cancel := some { tag := (p.radio r).tagCounter, phase := .ackWait, limit := 500000 } })) ∧
    ((∀ c : Sweep, (p.radio r).sweep = some c → c.kind ≠ .call k) →
      (∀ o : Pending, (p.radio r).slot = some o → o.order = .release ∨ o.order = .reject →
        q.radio r = { p.radio r with answerTimer := none }) ∧
      (∀ o : Pending, (p.radio r).slot = some o → o.order ≠ .release → o.order ≠ .reject →
        q.radio r = (p.radio r).abandon) ∧
      ((p.radio r).slot = none → (p.radio r).condition = .inCall →
        q.radio r = Radio.send .release .holder { p.radio r with answerTimer := none }) ∧
      ((p.radio r).slot = none → (p.radio r).condition ≠ .inCall →
        q.radio r = { p.radio r with answerTimer := none }))) ∧
  (∀ (g : Settings) (p : Part) (k : RecId),
    ((Reaction.clearingRelease k).enabled p = true ↔ (p.call k).state = .clearing ∧
      ∃ r, p.callRcu k = some r ∧ (p.radio r).condition = .inCall ∧ (p.radio r).slot = none) ∧
    (∀ r, p.callRcu k = some r → (p.radio r).condition = .inCall → (p.radio r).slot = none →
      (Reaction.clearingRelease k).run g p = p.modRadio r (Radio.send .release .holder)) ∧
    ((Reaction.leaveClearing k).enabled p = true ↔ (p.call k).state = .clearing ∧
      ∀ r, p.callRcu k = some r → (p.radio r).slot = none ∧ (p.radio r).condition ≠ .inCall) ∧
    (Reaction.leaveClearing k).run g p = p.leaveClearing g k ∧
    (p.callRcu k = none → let q := p.leaveClearing g k
      (q.call k).state = .idle ∧ (∀ r, q.radio r = p.radio r) ∧ q.window = p.window ∧ q.claims = p.claims)) ∧
  (∀ (g : Settings) (p : Part) (k : RecId) (r : RcuId), p.callRcu k = some r → p.waits .window = false →
    let q := p.leaveClearing g k
    let c := p.call k
    let camps := k ≠ .test ∧ c.fullConnection = true ∧ 0 < g.callbackWindow ∧ p.power.level ≠ .shed ∧
      (p.campChoice g).stack ≠ []
    (q.call k).state = .idle ∧ (q.call k).attempt = none ∧ (q.call k).plan = [] ∧
    (q.call k).regain = false ∧ (q.call k).rounds = c.rounds ∧ (q.call k).segments = c.segments ∧
    (q.call k).lastCause = c.lastCause ∧ (q.call k).sequence = c.sequence ∧
    (q.call k).elapsed = c.elapsed ∧
    (camps → ((∀ w, p.window = some w → ∃ d, w.state = .lent d) ∧ p.rcuOf .window = none) ∨
        (∃ w, p.window = some w ∧ (w.state = .camping ∨ w.state = .camped) ∧
          p.rcuOf .window = some r.other ∧ (p.radio r).holder ≠ some .window) →
      (q.radio r).holder = some .window ∧ (q.radio r.other).holder ≠ some .window ∧
      ∃ d cell, k.side = some d ∧ (p.campChoice g).stack.head? = some cell ∧
        q.window = some { side := d, sequence := c.sequence, campKey := cell, state := .camping,
                          expiry := g.callbackWindow * 60000000 }) ∧
    (∀ d w, ¬ camps → k.side = some d → c.ringTimedOut = true → p.window = some w → w.state = .lent d →
      p.rcuOf .window = none →
        (q.radio r).holder = some .window ∧ q.window = some { w with state := .camping }) ∧
    (¬ camps → (∀ d w, k.side = some d → p.window = some w → w.state ≠ .lent d) →
      (q.radio r).holder = none ∧ q.window = p.window) ∧
    (∀ d w, ¬ camps → k.side = some d → c.ringTimedOut = false → p.window = some w → w.state = .lent d →
      (q.radio r).holder = none ∧ q.window = none))

/-- R139, R140, R141, R143, R144: the callback window's CAMP, its page, and its end. R129, R139: the camp
choice pops keys from the top until one qualifies: an eligible entry has it, and the operator of the carrier stored
with it is subscribed. A camp failure first removes the camp key where it stands. A window that closes gives its
RCU back, unless it is LENT. That the record that rings keeps the window's camp key as its paged cell is the model's
reading (log 14, DEDUCED). -/
def Obligations.WindowsCampAndRing : Prop :=
  (∀ (g : Settings) (p : Part),
    (Reaction.camp.enabled p = true ↔ (∃ w, p.window = some w ∧ w.state = .camping) ∧
      ∃ r, p.rcuOf .window = some r ∧ (p.radio r).condition = .awake ∧ (p.radio r).slot = none) ∧
    (∀ w r, p.window = some w → p.rcuOf .window = some r → (p.radio r).condition = .awake →
      (p.radio r).slot = none →
        Reaction.camp.run g p = p.modRadio r (Radio.send (.camp w.campKey) .holder))) ∧
  (∀ (s : State) (r : RcuId) (w : Window), s.hears r → s.part.window = some w →
    (s.part.radio r).holder = some .window →
      (∀ (tag : Byte) (q : Pending) (cell : CarrierKey), (s.part.radio r).slot = some q →
        q.order = .camp cell → q.issuer = .holder → q.phase ≠ .retired → q.tag = tag.toNat → 1 ≤ tag.toNat →
        tag.toNat ≤ 15 →
          ((s.part.radio r).condition = .awake → exec (.camped r tag) s = .next (s.conclude
            { (s.part.modRadio r fun x => { x with slot := none, condition := .camped }).prove r with
              window := some { w with state := .camped } })) ∧
          exec (.noCell r tag) s = .next (s.conclude ((s.part.answeredOn r).campFailure s.settings))) ∧
      ((s.part.radio r).condition = .camped →
        let awake := s.part.modRadio r fun x => { x with condition := .awake }
        exec (.cellLost r) s = .next (s.conclude (awake.campFailure s.settings)) ∧
        (∀ d : Side, (d = w.side ∨ (s.part.call w.side.record).state ≠ .idle) →
          (s.part.call d.record).state = .idle → s.part.rcuOf d.record.holder = none →
          s.part.waits d.record.holder = false →
            ∃ p, exec (.paged r) s = .next (s.conclude p) ∧ (p.radio r).holder = some d.record.holder ∧
              (p.radio r).condition = .awake ∧ p.window = some { w with state := .lent d } ∧
              p.callSequence = s.part.callSequence ∧ p.stack = s.part.stack ∧
              p.call d.record = { CallRec.initial with
                state := .alertingIn, sequence := w.sequence, incoming := true, radioHeld := true,
                ringTimer := some 60000000, pagedCell := some w.campKey }) ∧
        ((s.part.call .sideA).state ≠ .idle → (s.part.call .sideB).state ≠ .idle →
          exec (.paged r) s = .next (s.conclude
            (Part.offer r .reject { awake with window := some { w with state := .camping } }))))) ∧
  (∀ (s : State) (w : Window), s.isHeld = false → s.part.window = some w →
    let closed : Part := { s.part with window := none }
    let expires := fun (p : Part) => exec .windowExpiry s = .next (s.conclude p)
    (∀ d, w.state = .lent d → expires closed) ∧
    (w.state = .camping ∨ w.state = .camped →
      (∀ r, s.part.rcuOf .window = some r → expires (closed.releaseRcu r)) ∧
      (s.part.rcuOf .window = none → expires closed))) ∧
  (∀ (g : Settings) (p : Part), let q := p.campChoice g
    (∃ popped, p.stack = popped ++ q.stack ∧ ∀ c ∈ popped,
      ¬ ((∃ e, p.entryOf c.key = some e ∧ e.eligible g = true) ∧
        ∃ o, g.operatorFor c.carrier = some o ∧ o.subscribed = true)) ∧
    (∀ c rest, q.stack = c :: rest → (∃ e, p.entryOf c.key = some e ∧ e.eligible g = true) ∧
      ∃ o, g.operatorFor c.carrier = some o ∧ o.subscribed = true) ∧
    (∀ w, p.window = some w →
      let rest := (p.stack.filter fun c => c.key ≠ w.campKey.key)
      (p.dropStackKey w.campKey.key).stack = rest ∧
      (∀ c, ((p.dropStackKey w.campKey.key).campChoice g).stack.head? = some c →
        (p.campFailure g).window = some { w with campKey := c, state := .camping }) ∧
      (((p.dropStackKey w.campKey.key).campChoice g).stack = [] → (p.campFailure g).window = none)))

/-- R113, R131, R96: the pause ends in a new round, the regain window ends, and a second counts for every record
that is not IDLE. -/
def Obligations.RecordTimers : Prop :=
  ∀ (s : State) (k : RecId),
    (s.isHeld = false → (s.part.call k).state = .seeking → (s.part.call k).step = .paused →
      (s.part.call k).pauseTimer.isSome = true →
      exec (.pauseTimerExpiry k) s = .next (s.conclude
        (s.part.modCall k fun c => { c with pauseTimer := none, step := .start }))) ∧
    (s.isHeld = false → (s.part.call k).regainTimer.isSome = true →
      exec (.regainTimerExpiry k) s = .next (s.conclude
        (s.part.modCall k fun c => { c with regainTimer := none, regain := false, droppedKey := none }))) ∧
    (s.part.secondTimer.isSome = true → ∃ t, exec .elapsedSecond s = .next t ∧
      t.part.secondTimer = some 1000000 ∧ t.settings = s.settings ∧
      (∀ r, t.part.radio r = s.part.radio r) ∧ t.part.table = s.part.table ∧
      ((s.part.call k).state = .idle → t.part.call k = s.part.call k) ∧
      ((s.part.call k).state ≠ .idle → t.part.call k = { s.part.call k with
        elapsed := if (s.part.call k).elapsed < 65535 then (s.part.call k).elapsed + 1 else 65535 }))

/-- R99: a SEEKING record at START or NEXT acts when its RCU is AWAKE with an EMPTY slot. R100, R101, R102, R108,
R113: what a panel record then does. R118, R119: the TEST record passes over an item of LIMITED access, makes no
blind attempt, and ends its test with its first round. That a blind attempt has the destination PUBLIC from its
creation is the model's choice (log 16). R119: a QUEUED TEST record ends with NO_RADIO while both RCUs are FAULTED or
DISABLED. What of its fields clears then is the model's choice (log 37). -/
def Obligations.SeekersTryTheirPlan : Prop :=
  (∀ (g : Settings) (p : Part),
    (Reaction.testNoRadio.enabled p = true ↔ p.test.state = .queued ∧
      ∀ r, (p.radio r).condition = .faulted ∨ (p.radio r).condition = .disabled) ∧
    (∀ q, q = Reaction.testNoRadio.run g p →
      q.testResult = .noRadio ∧ q.notices = { p.notices with testDone := true } ∧ q.test.state = .idle ∧
      q.test.lastCause = p.test.lastCause ∧ q.test.sequence = p.test.sequence ∧
      q.claims = (p.claims.filter fun w => w.claimant ≠ .test) ∧ q.waits .test = false ∧
      (∀ r, q.radio r = p.radio r) ∧ ∀ d : Side, q.call d.record = p.call d.record)) ∧
  (∀ (g : Settings) (p : Part) (k : RecId),
    let ready := ∃ r, p.callRcu k = some r ∧ (p.radio r).condition = .awake ∧ (p.radio r).slot = none
    ((Reaction.seekStart k).enabled p = true ↔
      (p.call k).state = .seeking ∧ (p.call k).step = .start ∧ ready) ∧
    ((Reaction.seekNext k).enabled p = true ↔
      (p.call k).state = .seeking ∧ (p.call k).step = .next ∧ ready) ∧
    (∀ r, p.callRcu k = some r →
      let begun := p.modCall k fun c => { c with blindTried := false, dialled := false }
      ((p.call k).rounds = 0 → 2 ≤ p.eligibleCount g →
        (Reaction.seekStart k).run g p = (begun.buildPlan g k).modCall k fun c => { c with step := .next }) ∧
      (1 ≤ (p.call k).rounds ∨ p.eligibleCount g < 2 →
        (Reaction.seekStart k).run g p = (begun.modCall k fun c => { c with step := .sweeping }).modRadio r
          fun x => { x with sweep := some (Sweep.create (.call k)) }))) ∧
  (∀ (g : Settings) (p : Part) (k : RecId) (r : RcuId), p.callRcu k = some r →
    (p.radio r).condition = .awake → (p.radio r).slot = none → let c := p.call k
      let usable := fun (item : PlanItem) => ∃ e, p.entryAt item.slot = some e ∧ e.eligible g = true ∧
        (k = .test → e.accessFor g = .full)
      (∀ j item e, c.cursor ≤ j → c.plan[j]? = some item → p.entryAt item.slot = some e → usable item →
        (∀ i item', c.cursor ≤ i → i < j → c.plan[i]? = some item' → ¬ usable item') →
        ∃ a, a.target = Target.slot item.slot ∧ a.cell = some { key := e.key, carrier := e.carrier } ∧
          a.access = e.accessFor g ∧ a.attached = false ∧
          (Reaction.seekNext k).run g p = (p.modCall k fun c =>
            { c with cursor := j, attempt := some a, state := .attaching }).modRadio r
              (Radio.send (.attach e.key (e.accessFor g)) .holder)) ∧
      (k ≠ .test → c.plan = [] → c.blindTried = false →
        (Reaction.seekNext k).run g p = (p.modCall k fun c =>
          { c with blindTried := true, state := .attaching,
                   attempt := some { target := .anyCell, cell := none, access := .limited,
                                     destination := .publicNumber, attached := false, opsFailed := false }
          }).modRadio r (Radio.send .attachAny .holder)) ∧
      ((c.plan = [] → c.blindTried = true ∨ k = .test) → (∀ item ∈ c.plan.drop c.cursor, ¬ usable item) →
        let n := min 255 (c.rounds + 1)
        (k ≠ .test → (Reaction.seekNext k).run g p = p.modCall k fun c =>
          { c with cursor := max c.cursor c.plan.length, rounds := n,
                   step := if n < 3 then .start else .paused,
                   pauseTimer := if n < 3 then c.pauseTimer else some 20000000 }) ∧
        (k = .test → (Reaction.seekNext k).run g p = (((p.modCall .test fun c =>
          { c with blindTried := c.blindTried || c.plan.isEmpty, cursor := max c.cursor c.plan.length,
                   rounds := n }).writeTest
            (if c.dialled then .noAnswer else .noService)).enterClearing .test))))

/-! ## Measuring -/

/-- R23, R24: a result is the largest n in 1..63 whose step lies below Vin, and 0 where none does. Step n lies
at 0.04 n − 0.02 V. -/
def Obligations.ConversionsRoundToTheLadder : Prop :=
  (∀ n : Nat, 1 ≤ n → ladderStep n = 40000 * n - 20000) ∧
  ∀ (src : Source) (vin : Microvolts), let code := (Conversion.begin src vin).result
    code ≤ 63 ∧
    (∀ n : Nat, 1 ≤ n → n ≤ 63 → (n ≤ code ↔ ladderStep n < vin)) ∧
    (vin ≤ 20000 → code = 0) ∧ (2500000 < vin → code = 63) ∧
    (∀ n : Nat, 1 ≤ n → n ≤ 63 → vin = ladderStep n → code = n - 1) ∧
    (∀ k : Nat, k ≤ 6 → ((Conversion.begin src vin).finish k).result = code)

/-- R25, R26: how a request is taken, and how a source withdraws. R25, R27, R174: at a completion the result
goes to its source unless it was withdrawn, and then the next conversion starts on what its line carries. -/
def Obligations.ConverterServesInOrder : Prop :=
  (∀ (src : Source) (lines : AnalogLines) (c : Converter),
    (c.current = none → c.request src lines =
      { c with current := some (Conversion.begin src (lines.read src)) }) ∧
    (∀ cur : Conversion, c.current = some cur →
      (src ∈ c.queue ∨ (cur.source = src ∧ cur.withdrawn = false) → c.request src lines = c) ∧
      (src ∉ c.queue → cur.source = src → cur.withdrawn = true →
        c.request src lines = { c with deferred := some src }) ∧
      (src ∉ c.queue → cur.source ≠ src → c.request src lines = { c with queue := c.queue ++ [src] }) ∧
      (cur.source = src → (c.withdraw src).current = some { cur with withdrawn := true }) ∧
      (cur.source ≠ src → (c.withdraw src).current = some cur)) ∧
    src ∉ (c.withdraw src).queue ∧ (c.withdraw src).deferred ≠ some src ∧
    (∀ head rest, c.queue ++ c.deferred.toList = head :: rest →
      c.advance lines = { queue := rest, current := some (Conversion.begin head (lines.read head)),
                          deferred := none }) ∧
    (c.queue = [] → c.deferred = none → c.advance lines = Converter.cleared)) ∧
  (∀ (s : State) (c : Conversion) (v : Microvolts), s.isHeld = false → s.part.converter.current = some c →
    let starts := fun (p : Part) => p.advanceConverter v
    (c.withdrawn = true → exec (.conversionComplete v) s = .next (s.conclude (starts s.part))) ∧
    (c.withdrawn = false → c.source = .battery →
      exec (.conversionComplete v) s = .next (s.conclude (starts
        (Part.levelChanged s.settings s.part.power.level
          { s.part with power := s.part.power.sample s.settings c.result })))) ∧
    (∀ r, c.withdrawn = false → c.source = .rcu r → (s.part.radio r).measurement.phase = .sampling →
      exec (.conversionComplete v) s = .next (s.conclude (starts
        ((s.part.modRadio r fun x =>
          { x with measurement := { x.measurement with code := some c.result } }).formPair s.settings r)))) ∧
    (∀ (r : RcuId) (k : RecId) (key : Key) (n : Nat), c.withdrawn = false → c.source = .rcu r →
      (s.part.radio r).measurement.phase = .none →
      (s.part.radio r).measurement.requester = some .callManager → (s.part.radio r).holder = some k.holder →
      (s.part.radio r).measurement.key = some key → (s.part.radio r).measurement.count = some n →
      exec (.conversionComplete v) s = .next (s.conclude (starts
        ((s.part.modRadio r fun x =>
          { x with measurement := { x.measurement with code := none, count := none } }).takeWindow k key c.result
          (qualityOf n (s.part.radio r).measurement.gate))))) ∧
    (∀ r, c.withdrawn = false → c.source = .rcu r → (s.part.radio r).measurement = Measurement.cleared →
      exec (.conversionComplete v) s = .next (s.conclude (starts s.part))))

/-- R30, R31, R33, R34, R36: the Gate Counter, from its opening tick to the quality of its count. That GATE_OPEN
leaves a counter that is not ARMED as it is (log 24, log 25), and that a counter ARMED for continuous measurement
carries a mark of it (log 21), is the model's choice, and so are the G, the ticks left and the S of the cleared
counter (log 29). -/
def Obligations.GatesCountPulses : Prop :=
  ∀ (s : State) (r : RcuId),
    let x := s.part.radio r
    let counted := fun (gate : GateCounter) =>
      (Host.Outcome.next (s.modPart fun p => p.modRadio r fun x => { x with gate := gate }) :
        Host.Outcome State Fault Refusal)
    (∀ high : Bool, x.gate.mode = .armed → exec (.gateOpen r high) s = counted
      { x.gate with mode := if x.gate.windows then .continuous else .opened, ticksLeft := x.gate.length,
                    count := if high then 1 else 0 }) ∧
    (∀ high : Bool, x.gate.mode ≠ .armed → exec (.gateOpen r high) s = .next s) ∧
    (x.gate.mode = .opened ∨ x.gate.mode = .continuous → exec (.syncRisingEdge r) s = counted
      { x.gate with count := if x.gate.count < x.gate.length + 1 then x.gate.count + 1
                             else x.gate.length + 1 }) ∧
    (x.gate.mode = .idle ∨ x.gate.mode = .armed → exec (.syncRisingEdge r) s = .next s) ∧
    (s.isHeld = false → x.gate.mode = .opened → x.measurement.phase = .sampling →
      exec (.gateClose r) s = .next (s.conclude ((s.part.modRadio r fun x =>
        { x with gate := GateCounter.cleared,
                 measurement := { x.measurement with count := some x.gate.count } }).formPair s.settings r))) ∧
    (∀ v, x.gate.mode = .continuous → exec (.continuousWindowClose r v) s = .next (s.modPart fun p =>
      ((p.setLine (.rcu r) v).modRadio r fun x =>
        { x with gate := { x.gate with ticksLeft := 32, count := 0 },
                 measurement := { x.measurement with count := some x.gate.count } }).requestConversion
        (.rcu r))) ∧
    (∀ n g : Nat, 0 < g → qualityOf n g ≤ 100 ∧ (100 * n < 101 * g → qualityOf n g = 100 * n / g) ∧
      (g ≤ n → qualityOf n g = 100))

/-- R34: SETTLED of a sweep's MEASURE starts the conversion and the gate. The pair goes to the table when both
the code and the count are there, and not before. The 0 of the ARMED gate's ticks left is the model's choice (log 29),
and so is that the record's key, gate length and requester are cleared at the hand-over (log 34). -/
def Obligations.SettledStartsTheSampling : Prop :=
  ∀ (s : State) (r : RcuId) (tag : Byte) (v : Microvolts) (q : Pending) (key : Key), s.hears r →
    (s.part.radio r).slot = some q → q.order = .measure key → q.issuer = .holder → q.phase ≠ .retired →
    q.tag = tag.toNat → 1 ≤ tag.toNat → tag.toNat ≤ 15 → (s.part.radio r).measurement.phase = .settling →
      let u := s.modPart (Part.setLine (.rcu r) v)
      exec (.settled r tag v) s = .next (u.conclude
        (((u.part.answeredOn r).requestConversion (.rcu r)).modRadio r fun x =>
          { x with measurement := { x.measurement with phase := .sampling },
                   gate := { mode := .armed, length := x.measurement.gate, ticksLeft := 0, count := 0,
                             windows := false } })) ∧
      (∀ p : Part, (p.radio r).measurement.code = none ∨ (p.radio r).measurement.count = none →
        p.formPair s.settings r = p) ∧
      (∀ (p : Part) (k : Key) (code count : Nat), (p.radio r).measurement.phase = .sampling →
        (p.radio r).measurement.key = some k → (p.radio r).measurement.code = some code →
        (p.radio r).measurement.count = some count →
          p.formPair s.settings r = (p.modRadio r fun x => { x with measurement := Measurement.cleared }).takePair
            s.settings r k code (min 100 (100 * count / (p.radio r).measurement.gate)))

/-- R12, R13, R49, R50: what the table makes of a pair and of a LISTEN, in a sweep of any kind. R52, R51: an
item of a CALL sweep that leaves its entry eligible is a yield. The second yield, and the end of the list, end
the sweep, and the record builds its plan. R9, R13, R15: what the insertion of a HEARD cell makes of the table. R46,
R47, R48: what the cursor reaches, read as it stands then. R34, R49: how an item begins. R51: how a background sweep
completes. R53: an item is found not begun at the instant at which the one before it ended, while its MEASURE has
no answer (that no time has passed is the model's mark, log 28). That a sweep with nothing to measure ends when its RCU
is ready, and not before, is the model's reading (log 19, DEDUCED). -/
def Obligations.SweepsFeedTheTable : Prop :=
  (∀ (s : State) (r : RcuId) (c : Sweep) (key : Key) (l q : Nat), (s.part.radio r).sweep = some c →
      let g := s.settings
      let ended := fun (p : Part) => p.modRadio r fun x =>
        { x with sweep := x.sweep.map fun c => { c with phase := .none, item := none, pair := none, endedNow := true } }
      (∀ p : Part, (p.radio r).sweep = some c → c.kind = .full ∨ c.kind = .refresh →
        p.itemEnds g r key = ended p) ∧
      (∀ i, c.phase = .measuring → s.part.slotOf key = some i →
        s.part.takePair g r key l q = (s.part.modEntry i fun e =>
          { e with level := l, quality := q, age := 0,
                   failures := if c.kind = .refresh ∧ g.levelFloor ≤ l then e.failures - 1
                               else e.failures }).itemEnds g r key) ∧
      (c.phase = .measuring → s.part.slotOf key = none → c.kind = .refresh ∨ l < g.levelFloor →
        s.part.takePair g r key l q = ended s.part) ∧
      (c.phase = .measuring → s.part.slotOf key = none → c.kind ≠ .refresh → g.levelFloor ≤ l →
        s.part.takePair g r key l q = (s.part.modRadio r fun x =>
          { x with sweep := some { c with phase := .listening, pair := some (l, q) } }).offer r (.listen key)) ∧
      (∀ (tag : Byte) (o : Pending) (item : SweepItem), s.hears r → (s.part.radio r).slot = some o →
        o.order = .listen key → o.issuer = .holder → o.phase ≠ .retired → o.tag = tag.toNat →
        1 ≤ tag.toNat → tag.toNat ≤ 15 → c.phase = .listening → c.item = some item → item.key = key →
        c.pair = some (l, q) →
          exec (.notHeard r tag) s = .next (s.conclude (ended (s.part.answeredOn r))) ∧
          (o.phase = .outcomeWait →
            exec (.failureExpiry r) s = .next (s.conclude ((ended s.part).abandon r))) ∧
          (∀ (carrier : BitVec 16) (k b : Byte), carrierInRange carrier = true → codeInRange k = true →
            codeInRange b = true → ∃ kind barring,
              accessKindOf k.toNat = some kind ∧ barringOf b.toNat = some barring ∧
              exec (.heard r tag carrier k b) s = .next (s.conclude
                (((s.part.answeredOn r).insertHeard g key l q carrier.toNat kind barring).itemEnds g r key))))) ∧
  (∀ (g : Settings) (p : Part) (r : RcuId) (c : Sweep) (k : RecId) (key : Key), (p.radio r).sweep = some c →
    c.kind = .call k →
      let eligible := ∃ e, p.entryOf key = some e ∧ e.eligible g = true
      let ended : Sweep := { c with phase := .none, item := none, pair := none, endedNow := true }
      (¬ eligible → p.itemEnds g r key = p.modRadio r fun x => { x with sweep := some ended }) ∧
      (eligible → c.yields = 0 → p.itemEnds g r key = p.modRadio r fun x =>
        { x with sweep := some { ended with yields := 1 } }) ∧
      (eligible → c.yields = 1 → ((p.itemEnds g r key).radio r).sweep = none) ∧
      ((p.call k).state = .seeking → (p.call k).step = .sweeping → let q := p.completeSweep g r (.call k)
        (q.radio r).sweep = none ∧ (q.radio r).holder = (p.radio r).holder ∧
        q.call k = { p.call k with plan := p.normalPlan g, cursor := 0, step := .next })) ∧
  (∀ (g : Settings) (p : Part) (r : RcuId) (c : Sweep), (p.radio r).sweep = some c →
    ((Reaction.sweepItem r).enabled p = true ↔
      c.state = .running ∧ c.phase = .none ∧ (p.radio r).condition = .awake ∧ (p.radio r).slot = none) ∧
    (Reaction.sweepItem r).run g p = p.sweepAdvances g r ∧
    (p.nextItem g c = none → p.sweepAdvances g r = p.completeSweep g r c.kind) ∧
    (∀ i item, p.nextItem g c = some (i, item) → p.sweepAdvances g r = p.beginItem r i item ∧
      ((p.radio r).condition = .awake → (p.radio r).slot = none → (p.radio r).measurement.phase = .none →
        p.beginItem r i item = p.modRadio r fun x => Radio.send (.measure item.key) .holder { x with
          sweep := some { c with cursor := some i, item := some item, pair := none, phase := .measuring }
          measurement := { phase := .settling, key := some item.key, gate := item.gate,
                           requester := some .sweep, code := none, count := none } })) ∧
    (c.kind = .full ∨ c.kind = .refresh → let q := p.completeSweep g r c.kind
      (q.radio r).sweep = none ∧ (q.radio r).holder = none ∧ q.radio r.other = p.radio r.other ∧
      q.survey = { p.survey with state := if g.listHasItem then .idle else .notConfigured, kind := none } ∧
      q.claims = p.claims ∧ q.table = p.table ∧ ∀ k, q.call k = p.call k)) ∧
  (∀ (g : Settings) (p : Part) (c : Sweep), let beyond := fun (i : Nat) => ∀ j, c.cursor = some j → j < i
    ((c.kind = .full ∨ ∃ k, c.kind = .call k) →
      (∀ i item, beyond i → g.channels[i]? = some (some item) →
        (∀ j, beyond j → j < i → ∀ other, g.channels[j]? ≠ some (some other)) →
        p.nextItem g c = some (i, { key := item.key, gate := item.gate })) ∧
      ((∀ i item, beyond i → g.channels[i]? ≠ some (some item)) → p.nextItem g c = none)) ∧
    (c.kind = .refresh →
      (∀ i e, beyond i → p.entryAt i = some e → (∀ j, beyond j → j < i → p.entryAt j = none) →
        p.nextItem g c = some (i, { key := e.key, gate := 8 })) ∧
      ((∀ i, beyond i → p.entryAt i = none) → p.nextItem g c = none))) ∧
  (∀ x : Radio, x.begunNow = true ↔ ∃ c q key, x.sweep = some c ∧ c.endedNow = true ∧ c.phase = .measuring ∧
    x.slot = some q ∧ q.phase = .ackWait ∧ q.order = .measure key) ∧
  (∀ (g : Settings) (p : Part) (key : Key) (l q carrier : Nat) (kind : AccessKind) (barring : Barring),
    (∀ i, p.slotOf key = some i → (∃ e, p.entryAt i = some e ∧ e.key = key) ∧
      p.insertHeard g key l q carrier kind barring = p.modEntry i fun e =>
        { e with level := l, quality := q, age := 0, carrier := carrier, kind := kind, barring := barring,
                 fullRefused := if carrier = e.carrier then e.fullRefused else false }) ∧
    (p.slotOf key = none → (∀ i e, p.entryAt i = some e → e.key ≠ key) ∧
      p.insertHeard g key l q carrier kind barring = p.insertNew g
        { key := key, carrier := carrier, kind := kind, level := l, quality := q, age := 0, failures := 0,
          barring := barring, fullRefused := false }))

/-- R37: the fade test on a monitoring window of a CONNECTED record. R14: what the window writes into the carrying
entry, if there is one. R124: the indication, by the first line that applies. -/
def Obligations.FadeTest : Prop :=
  (∀ (c : CallRec) (q : Nat),
    (q < 25 → c.fadeTest q = { c with fadeCount := if c.fadeCount < 3 then c.fadeCount + 1 else 3,
                                      fading := c.fading || decide (2 ≤ c.fadeCount) }) ∧
    (25 ≤ q → c.fadeTest q = { c with fadeCount := 0, fading := false })) ∧
  (∀ (c : CallRec) (q₁ q₂ q₃ : Nat), c.fadeCount = 0 → c.fading = false → q₁ < 25 → q₂ < 25 → q₃ < 25 →
    (c.fadeTest q₁).fading = false ∧ ((c.fadeTest q₁).fadeTest q₂).fading = false ∧
    (((c.fadeTest q₁).fadeTest q₂).fadeTest q₃).fading = true) ∧
  (∀ (c : CallRec) (q : Nat), c.fading = true → q < 25 → (c.fadeTest q).fading = true) ∧
  (∀ (c : CallRec) (noRadio : Bool), c.indication noRadio =
    if c.state = .idle ∨ c.state = .clearing then .idle
    else if c.state = .connected then (if c.fading then .fading else .connected)
    else if c.state = .alertingIn then .incoming
    else if c.state = .queued ∧ noRadio = true then .noRadio
    else if c.regain = true then .reconnecting
    else if c.state = .queued then (if c.radioHeld then .searching else .wait)
    else if c.state = .seeking then (if 3 ≤ c.rounds then .noService else .searching)
    else if c.state = .ringing then .ringback
    else .connecting) ∧
  (∀ (p : Part) (k : RecId) (key : Key) (l q : Nat),
    ((p.call k).state = .connected →
      (∀ i, p.slotOf key = some i → p.takeWindow k key l q =
        (p.modEntry i fun e => { e with level := l, quality := q, age := 0 }).modCall k (CallRec.fadeTest q)) ∧
      (p.slotOf key = none → p.takeWindow k key l q = p.modCall k (CallRec.fadeTest q))) ∧
    ((p.call k).state ≠ .connected → p.takeWindow k key l q = p))

/-! ## The Cell Table -/

/-- R4: the three tests, the use of a NORMAL_BARRED entry, and the mark that has no bearing. -/
def Obligations.EligibilityHasThreeTests : Prop :=
  ∀ (g : Settings) (e : Entry), (e.eligible g = true ↔
      g.levelFloor ≤ e.level ∧ e.barring ≠ .emergencyBarred ∧ e.failures < 7) ∧
    (e.barring = .normalBarred → (e.eligible g = ({ e with barring := .openAccess } : Entry).eligible g)) ∧
    (∀ b, ({ e with fullRefused := b } : Entry).eligible g = e.eligible g)

/-- R6: the score, its class and kind bonuses, its floor at 0, its range, and what an ineligible entry is shown with. -/
def Obligations.ScoresFollowTheFormula : Prop :=
  ∀ (g : Settings) (e : Entry),
    (e.score g : Int) = max 0 (2 * (e.level : Int) + (e.quality / 4 : Nat) + g.carrierBonus e.carrier +
      g.kindBonus e.kind - 12 * e.failures - 2 * e.age) ∧
    (∀ o, g.operatorFor e.carrier = some o → g.carrierBonus e.carrier =
      if o.cls = 0 then 24 else if o.cls = 1 then 16 else if o.cls = 2 then 8 else 0) ∧
    (g.operatorFor e.carrier = none → g.carrierBonus e.carrier = 0) ∧
    (∀ o, g.operatorFor e.carrier = some o → some o ∈ g.operators ∧ o.carrier = e.carrier) ∧
    (g.operatorFor e.carrier = none → ∀ o, some o ∈ g.operators → o.carrier ≠ e.carrier) ∧
    (e.kind = .narrow → g.kindBonus e.kind = g.bonusNarrow) ∧ (e.kind = .wide → g.kindBonus e.kind = g.bonusWide) ∧
    (e.kind = .broad → g.kindBonus e.kind = g.bonusBroad) ∧
    (g.Ok → e.Ok → e.score g ≤ 190) ∧
    (e.eligible g = false → e.shownScore g = 0) ∧ (e.eligible g = true → e.shownScore g = e.score g)

/-- R7, R101: the ranking holds exactly the eligible entries, each once, in descending score, then level, then
ascending slot. A normal plan is its first six. -/
def Obligations.RankingIsSorted : Prop :=
  ∀ (g : Settings) (p : Part),
    (∀ i e, (i, e) ∈ p.ranking g ↔ p.entryAt i = some e ∧ e.eligible g = true) ∧
    ((p.ranking g).map (·.1)).Nodup ∧
    (p.ranking g).Pairwise (fun a b => b.2.score g < a.2.score g ∨
      (a.2.score g = b.2.score g ∧ (b.2.level < a.2.level ∨ (a.2.level = b.2.level ∧ a.1 < b.1)))) ∧
    p.normalPlan g = ((p.ranking g).take 6).map fun x => { slot := x.1, score := x.2.score g }

/-- R9, R10: a new entry takes the lowest empty slot. In a full table it takes the slot of the unpinned entry
that ranks lowest. -/
def Obligations.NewEntriesTakeTheirSlot : Prop :=
  ∀ (g : Settings) (p : Part) (e : Entry),
    (∀ i, p.table[i]? = some none → (∀ j, j < i → ∃ f, p.entryAt j = some f) →
      (p.insertNew g e).table = p.table.set i (some e)) ∧
    ((∀ i, i < p.table.length → ∃ f, p.entryAt i = some f) →
      (∃ i f, p.entryAt i = some f ∧ p.pinned i f.key = false) →
      ∃ v f, p.entryAt v = some f ∧ p.pinned v f.key = false ∧
        (p.insertNew g e).table = p.table.set v (some e) ∧
        ∀ i h, p.entryAt i = some h → p.pinned i h.key = false → i ≠ v →
          (f.eligible g = false ∧ h.eligible g = true) ∨
          (f.eligible g = false ∧ h.eligible g = false ∧ (h.age < f.age ∨ (h.age = f.age ∧ i < v))) ∨
          (f.eligible g = true ∧ h.eligible g = true ∧ (f.score g < h.score g ∨
            (f.score g = h.score g ∧ (f.level < h.level ∨ (f.level = h.level ∧ i < v))))))

/-- R18, R19, R20, R21: the age tick and CLEAR_TABLE, slot by slot. -/
def Obligations.AgingAndClearingSpareThePinned : Prop :=
  ∀ (s : State) (i : Nat), let p := s.part
    (p.ageTimer.isSome = true → ∃ t, exec .ageTick s = .next t ∧
      t.part.ageTimer = some (s.settings.agePeriod * 1000000) ∧ t.settings = s.settings ∧
      (∀ r, t.part.radio r = p.radio r) ∧ (∀ k, t.part.call k = p.call k) ∧ t.part.stack = p.stack ∧
      t.part.table.length = p.table.length ∧
      (p.entryAt i = none → t.part.entryAt i = none) ∧
      (∀ e, p.entryAt i = some e → e.age < 14 → t.part.entryAt i = some { e with age := e.age + 1 }) ∧
      (∀ e, p.entryAt i = some e → (e.age = 14 ∨ e.age = 15) → p.pinned i e.key = true →
        t.part.entryAt i = some { e with age := 15 }) ∧
      (∀ e, p.entryAt i = some e → (e.age = 14 ∨ e.age = 15) → p.pinned i e.key = false →
        t.part.entryAt i = none)) ∧
    (p.clearTable.ageTimer = p.ageTimer ∧ p.clearTable.table.length = p.table.length ∧
      (∀ r, p.clearTable.radio r = p.radio r) ∧ (∀ k, p.clearTable.call k = p.call k) ∧
      (∀ e, p.entryAt i = some e → p.clearTable.entryAt i = if p.pinned i e.key then some e else none))

/-! ## The ports -/

/-- R146, R156: select frames a transaction. R147, R158: a write cut short by a deselect is discarded whole. A
header that names no item of the port, or the wrong direction, is ignored with all that follows it. That the item
in hand stays after a deselect is the model's (log 8, DEDUCED). -/
def Obligations.SelectFramesTransactions : Prop :=
  (∀ (s : State) (q : PortId) (early : Bool),
    (s.isHeld = false → (s.tx q).state = .deselected →
      exec (.selectAssert q) s = .next (s.setTx q
        { select := true, state := .header, item := none, byteCount := 0, burst := none, written := [],
          dataOut := [] })) ∧
    (s.isHeld = true ∨ (s.tx q).state ≠ .deselected →
      exec (.selectAssert q) s = .next (s.setTx q { s.tx q with select := true })) ∧
    exec (.selectDeassert q [] early) s = .next (s.setTx q
      { s.tx q with select := false, state := .deselected, byteCount := 0, burst := none, written := [] })) ∧
  (∀ (s : State) (q : PortId) (header : Byte) (data : List Byte) (early : Bool), s.atStart q →
    (∀ n, header.toNat < 128 → portWriteBytes q header.toNat = some n → data.length < n →
      ∃ t, exec (.selectDeassert q (header :: data) early) s = .next t ∧
        t = s.setTx q { Transaction.start with
          select := false, state := .deselected, item := some header.toNat }) ∧
    (q.headers.contains header = false →
      ∃ t, exec (.ignoredHeader q header data) s = .next t ∧ t.part = s.part ∧ t.settings = s.settings ∧
        (t.tx q).state = .ignoring ∧ (t.tx q).dataOut = List.replicate data.length 0 ∧
        t = s.setTx q (t.tx q)))

/-- R148, R149, R150: STATUS and PEEK read the burst of the side as it stands at the header, byte by byte.
STATUS empties the notice set. Table 11-7: the bytes of the panel burst. Table 11-1: the codes in it. -/
def Obligations.PanelReads : Prop :=
  (∀ (s : State) (d : Side) (clocks : Nat) (early : Bool), s.atStart d.port →
    let burst := s.panelBurst d
    let out := (List.range clocks).map fun i => if i = 0 ∧ early = true then 0 else burst[i]?.getD 0
    burst.length = 12 ∧
    (∃ t, exec (.status d clocks early) s = .next t ∧ (t.tx d.port).dataOut = out ∧
      (t.panel d).notices = PanelNotices.none ∧ t.attention d.port = false ∧ t.part = s.part ∧
      t.settings = s.settings ∧ t.panel d.other = s.panel d.other ∧ t.cabinet = s.cabinet) ∧
    (∃ t, exec (.peek d clocks early) s = .next t ∧ (t.tx d.port).dataOut = out ∧
      (t.panel d).notices = (s.panel d).notices ∧ t.part = s.part ∧ t.settings = s.settings ∧
      t.panel d.other = s.panel d.other ∧ t.cabinet = s.cabinet)) ∧
  (∀ (s : State) (d : Side), let c := s.part.call d.record
    let x := s.panel d
    let low : Nat := if s.part.power.level = .normal then 0 else 1
    s.panelBurst d = [toByte c.state.code, toByte (s.part.indication d).code,
      toByte (low + (if c.regain then 2 else 0) + (if c.incoming then 4 else 0) + 16 * s.part.power.level.code),
      toByte (16 * x.lastResult.code + c.lastCause.code), toByte c.rounds, toByte c.segments,
      toByte (c.sequence.toNat / 256), toByte c.sequence.toNat, toByte (c.elapsed / 256), toByte c.elapsed,
      x.lastCommand.getD 0, x.commandCount]) ∧
  (([.idle, .queued, .seeking, .attaching, .dialling, .ringing, .announcing, .connected, .clearing,
      .alertingIn] : List RecState).map RecState.code = List.range 10 ∧
    ([.idle, .wait, .searching, .connecting, .ringback, .connected, .reconnecting, .noService, .noRadio,
      .incoming, .fading] : List Indication).map Indication.code = List.range 11 ∧
    ([.noCause, .barred, .congested, .noCell, .attachTimeout, .subscription, .dialRejected, .noAnswer,
      .linkLost, .moduleFault, .preempted, .noteFailed] : List Cause).map Cause.code = List.range 12 ∧
    ([.noResult, .accepted, .refusedState, .unknown, .refusedPower, .refusedBusy,
      .badValue] : List CommandResult).map CommandResult.code = List.range 7 ∧
    ([.normal, .warn, .shed] : List PowerLevel).map PowerLevel.code = List.range 3)

/-- R22, R167, R169: CABINET_STATUS empties the notice set, TABLE_ENTRY moves the table select on, TABLE_SELECT
sets it. Tables 11-8 and 11-9: the bytes of both bursts. Table 11-1: its other codes. -/
def Obligations.CabinetReads : Prop :=
  (([.narrow, .wide, .broad] : List AccessKind).map AccessKind.code = List.range 3 ∧
    ([.openAccess, .normalBarred, .emergencyBarred] : List Barring).map Barring.code = List.range 3 ∧
    ([.full, .limited] : List Access).map Access.code = List.range 2 ∧
    ([.ops, .publicNumber] : List Destination).map Destination.code = List.range 2 ∧
    ([.off, .booting, .doze, .waking, .awake, .camped, .inCall, .faulted,
      .disabled] : List Condition).map Condition.code = List.range 9 ∧
    ([none, some .sideA, some .sideB, some .test, some .window, some .survey] : List (Option Holder)).map
      holderCode = List.range 6 ∧
    ([.ackWait, .outcomeWait, .retired] : List OrderPhase).map OrderPhase.code = [1, 2, 3] ∧
    ([.ackWait, .doneWait] : List CancelPhase).map CancelPhase.code = [1, 2] ∧
    ([.notConfigured, .idle, .waiting, .sweeping, .ending] : List SurveyState).map SurveyState.code =
      List.range 5 ∧
    ([.full, .refresh] : List BackgroundKind).map BackgroundKind.code = [1, 2] ∧
    (∀ d, ([.camping, .camped, .lent d] : List WindowState).map WindowState.code = [1, 2, 3]) ∧
    ([.noResult, .running, .passed, .noService, .noAnswer, .noteFailed, .preempted,
      .noRadio] : List TestResult).map TestResult.code = List.range 8 ∧
    ([.powerOn, .brownOut, .cabinet] : List ResetCause).map ResetCause.code = List.range 3 ∧
    ([.sideA, .sideB, .test] : List RecId).map RecId.sideCode = List.range 3) ∧
  ∀ (s : State) (clocks : Nat) (early : Bool), s.atStart .cabinet →
    let out := fun (burst : List Byte) =>
      (List.range clocks).map fun i => if i = 0 ∧ early = true then 0 else burst[i]?.getD 0
    (∃ t, exec (.cabinetStatus clocks early) s = .next t ∧
      (t.tx .cabinet).dataOut = out s.cabinetStatusBurst ∧ t.attention .cabinet = false ∧
      t.part = { s.part with notices := CabinetNotices.none } ∧ t.settings = s.settings ∧
      t.panelA = s.panelA ∧ t.panelB = s.panelB ∧ t.cabinet.tableSelect = s.cabinet.tableSelect) ∧
    (∃ t, exec (.tableEntry clocks early) s = .next t ∧ (t.tx .cabinet).dataOut = out s.tableEntryBurst ∧
      t.cabinet.tableSelect = (if s.cabinet.tableSelect < 23 then s.cabinet.tableSelect + 1 else 0) ∧
      t.part = s.part ∧ t.settings = s.settings ∧ t.panelA = s.panelA ∧ t.panelB = s.panelB) ∧
    s.cabinetStatusBurst.length = 16 ∧ s.tableEntryBurst.length = 12 ∧
    (s.part.entryAt s.cabinet.tableSelect = none →
      s.tableEntryBurst = toByte s.cabinet.tableSelect :: List.replicate 11 0) ∧
    (∀ e, s.part.entryAt s.cabinet.tableSelect = some e → s.tableEntryBurst =
      [toByte s.cabinet.tableSelect,
        toByte (1 + (if e.eligible s.settings then 2 else 0) +
          (if s.part.pinned s.cabinet.tableSelect e.key then 4 else 0) + (if e.fullRefused then 8 else 0) +
          16 * e.barring.code + 64 * e.kind.code),
        toByte e.key.band, toByte (e.key.channel / 256), toByte e.key.channel, toByte (e.carrier / 256),
        toByte e.carrier, toByte e.level, toByte e.quality, toByte e.age, toByte e.failures,
        toByte (if e.eligible s.settings then e.score s.settings else 0)]) ∧
    (let n := s.part.notices
      let x := s.cabinet
      let present := s.part.table.filterMap id
      let flag := fun (b : Bool) (weight : Nat) => if b then weight else 0
      s.cabinetStatusBurst =
        [toByte (flag n.testDone 1 + flag n.radioChanged 2 + flag n.powerChanged 4 + flag n.resetOccurred 8 +
            flag n.callEvent 16),
          toByte s.part.power.level.code, toByte s.part.survey.state.code,
          (if s.part.survey.kind = some .full then 1 else if s.part.survey.kind = some .refresh then 2 else 0),
          toByte s.part.survey.passCount, toByte present.length,
          toByte (present.filter fun e => e.eligible s.settings).length, x.lastCommand.getD 0,
          toByte x.lastResult.code, x.commandCount, toByte (x.lastItem.getD 0), toByte x.writeResult.code,
          toByte (flag x.clamped 1), x.writeCount, toByte s.part.testResult.code,
          toByte (flag s.part.noRadio 1)]) ∧
    (∀ slot : Byte, ∃ t, exec (.tableSelect slot) s = .next t ∧ t.part = s.part ∧ t.settings = s.settings ∧
      t.cabinet.tableSelect = (if slot.toNat ≤ 23 then slot.toNat else s.cabinet.tableSelect) ∧
      t.cabinet.lastItem = some 24 ∧ t.cabinet.clamped = false ∧
      t.cabinet.writeResult = (if slot.toNat ≤ 23 then .accepted else .badValue) ∧
      t.cabinet.writeCount = s.cabinet.writeCount + 1)

/-- R159, R160: a write of a timing or threshold setting stores the value, or the nearer end of its range. -/
def Obligations.SettingWritesClamp : Prop :=
  ∀ (s : State) (v : BitVec 16) (b n w r : Byte), s.atStart .cabinet →
    let g := s.settings
    let wrote := fun (item : SettingItem) (data : List Byte) (stored : Settings) (clamped : Bool) =>
      ∃ t, exec (.settingWrite item data) s = .next t ∧ t.settings = stored ∧ t.part = s.part ∧
        t.panelA = s.panelA ∧ t.panelB = s.panelB ∧ t.cabinet.lastItem = some (itemAddress item) ∧
        t.cabinet.writeResult = .accepted ∧ t.cabinet.clamped = clamped ∧
        t.cabinet.writeCount = s.cabinet.writeCount + 1
    let clamp := fun (lo hi x : Nat) => if x < lo then lo else if hi < x then hi else x
    let out := fun (lo hi x : Nat) => decide (x < lo ∨ hi < x)
    let two := [toByte (v.toNat / 256), toByte v.toNat]
    wrote .levelFloor [b] { g with levelFloor := clamp 1 62 b.toNat } (out 1 62 b.toNat) ∧
    wrote .agePeriod two { g with agePeriod := clamp 10 600 v.toNat } (out 10 600 v.toNat) ∧
    wrote .surveyPeriod two { g with surveyPeriod := clamp 60 3600 v.toNat } (out 60 3600 v.toNat) ∧
    wrote .kindBonuses [n, w, r] { g with
      bonusNarrow := clamp 0 15 n.toNat, bonusWide := clamp 0 15 w.toNat, bonusBroad := clamp 0 15 r.toNat }
      (out 0 15 n.toNat || out 0 15 w.toNat || out 0 15 r.toNat) ∧
    wrote .regainWindow two { g with regainWindow := clamp 10 300 v.toNat } (out 10 300 v.toNat) ∧
    wrote .answerTimeout two { g with answerTimeout := clamp 30 300 v.toNat } (out 30 300 v.toNat) ∧
    wrote .callbackWindow [b] { g with callbackWindow := clamp 0 30 b.toNat } (out 0 30 b.toNat) ∧
    wrote .dozeDelay two { g with dozeDelay := clamp 5 600 v.toNat } (out 5 600 v.toNat)

/-- R161, R165: the pair of thresholds, and the site record. -/
def Obligations.ThresholdAndSiteWrites : Prop :=
  ∀ (s : State), s.atStart .cabinet →
    (∀ warn shed : Byte, ∃ t, exec (.thresholds warn shed) s = .next t ∧ t.part = s.part ∧
      t.cabinet.lastItem = some 9 ∧ t.cabinet.writeResult = .accepted ∧
      t.cabinet.writeCount = s.cabinet.writeCount + 1 ∧
      t.settings = { s.settings with warnCode := t.settings.warnCode, shedCode := t.settings.shedCode } ∧
      t.settings.warnCode = max 2 (min 61 warn.toNat) ∧
      t.settings.shedCode = min (min 61 shed.toNat) (t.settings.warnCode - 2) ∧
      t.settings.shedCode + 2 ≤ t.settings.warnCode ∧
      (t.cabinet.clamped = true ↔
        t.settings.warnCode ≠ warn.toNat ∨ t.settings.shedCode ≠ shed.toNat)) ∧
    (∀ (code : BitVec 16) (km : BitVec 24), ∃ t, exec (.site code km) s = .next t ∧ t.part = s.part ∧
      t.cabinet.lastItem = some 19 ∧ t.cabinet.writeResult = .accepted ∧
      t.cabinet.writeCount = s.cabinet.writeCount + 1 ∧
      t.settings = { s.settings with siteCode := code.toNat, kmPost := min 99999 km.toNat } ∧
      (t.cabinet.clamped = true ↔ 99999 < km.toNat)) ∧
    State.reset.settings.siteCode = 0 ∧ State.reset.settings.kmPost = 0 ∧
    State.reset.settings.warnCode = 46 ∧ State.reset.settings.shedCode = 44

/-- R162, R163, R164, R190: the Operator Table, the Channel List and the destinations. A refused write changes
no setting. R44: what the Survey Engine does where a write makes the Channel List empty or non-empty. -/
def Obligations.TableWrites : Prop :=
  ∀ (s : State), s.atStart .cabinet →
    let g := s.settings
    (∀ (index : Byte) (carrier : BitVec 16) (cls mark : Byte),
      ∃ t, exec (.operator index carrier cls mark) s = .next t ∧ t.part = s.part ∧
        t.cabinet.lastItem = some 16 ∧ t.cabinet.clamped = false ∧
        t.cabinet.writeCount = s.cabinet.writeCount + 1 ∧
        (15 < index.toNat ∨ 999 < carrier.toNat ∨ (carrier ≠ 0 ∧ (3 < cls.toNat ∨ 1 < mark.toNat)) →
          t.cabinet.writeResult = .badValue ∧ t.settings = g) ∧
        (index.toNat ≤ 15 → carrier = 0 → t.cabinet.writeResult = .accepted ∧
          t.settings = { g with operators := g.operators.set index.toNat none }) ∧
        (index.toNat ≤ 15 → carrier ≠ 0 → carrier.toNat ≤ 999 → cls.toNat ≤ 3 → mark.toNat ≤ 1 →
          t.cabinet.writeResult = .accepted ∧
          let stored : OperatorRec := { carrier := carrier.toNat, cls := cls.toNat, subscribed := mark.toNat == 1 }
          let others := g.operators.map fun o => o.filter fun x => x.carrier != carrier.toNat
          t.settings = { g with operators := others.set index.toNat (some stored) })) ∧
    (∀ (position present band : Byte) (ch : BitVec 16) (gate : Byte),
      ∃ t, exec (.channel position present band ch gate) s = .next t ∧ t.cabinet.lastItem = some 17 ∧
        t.cabinet.clamped = false ∧ t.cabinet.writeCount = s.cabinet.writeCount + 1 ∧
        (63 < position.toNat ∨ 1 < present.toNat ∨ (present = 1 ∧ (5 < band.toNat ∨ 4095 < ch.toNat ∨
            (gate ≠ 8 ∧ gate ≠ 16 ∧ gate ≠ 32))) →
          t.cabinet.writeResult = .badValue ∧ t.settings = g ∧ t.part = s.part) ∧
        (position.toNat ≤ 63 → present = 0 → t.cabinet.writeResult = .accepted ∧
          t.settings = { g with channels := g.channels.set position.toNat none }) ∧
        (position.toNat ≤ 63 → present = 1 → band.toNat ≤ 5 → ch.toNat ≤ 4095 →
          (gate = 8 ∨ gate = 16 ∨ gate = 32) → t.cabinet.writeResult = .accepted ∧
          let stored : ChannelItem := { key := { band := band.toNat, channel := ch.toNat }, gate := gate.toNat }
          t.settings = { g with channels := g.channels.set position.toNat (some stored) }) ∧
        (t.settings.listHasItem = g.listHasItem → t.part = s.part) ∧
        (let follows := fun (p : Part) => t.part = (State.conclude { s with settings := t.settings } p).part
          let survey := s.part.survey
          (t.settings.listHasItem = true → g.listHasItem = false →
            (survey.state = .notConfigured → s.part.power.level ≠ .shed → follows
              (Part.claim t.settings { claimant := .survey, requeued := false }
                { s.part with survey := { survey with state := .waiting, kind := some .full } })) ∧
            (survey.state = .notConfigured → s.part.power.level = .shed →
              follows { s.part with survey := { survey with state := .idle } }) ∧
            (survey.state ≠ .notConfigured → follows s.part)) ∧
          (t.settings.listHasItem = false → g.listHasItem = true →
            (survey.state = .idle → follows { s.part with survey := { survey with state := .notConfigured } }) ∧
            (survey.state ≠ .idle → follows s.part)))) ∧
    (g.listHasItem = true ↔ ∃ i, some i ∈ g.channels) ∧
    (∀ (selector count : Byte) (digits : List Byte), digits.length = 20 →
      ∃ t, exec (.destinations selector count digits) s = .next t ∧ t.part = s.part ∧
        t.cabinet.lastItem = some 18 ∧ t.cabinet.clamped = false ∧
        t.cabinet.writeCount = s.cabinet.writeCount + 1 ∧
        let used := (digits.take count.toNat).map (·.toNat)
        let good := ((selector = 0 ∧ count.toNat ≤ 20) ∨ (selector = 1 ∧ 1 ≤ count.toNat ∧ count.toNat ≤ 6)) ∧
          ∀ x ∈ used, x ≤ 9
        (¬ good → t.cabinet.writeResult = .badValue ∧ t.settings = g) ∧
        (good → selector = 0 → t.cabinet.writeResult = .accepted ∧
          t.settings = { g with opsDigits := used }) ∧
        (good → selector = 1 → t.cabinet.writeResult = .accepted ∧
          t.settings = { g with publicDigits := used }))

/-- R45, R79, R118, R171, R172: the cabinet commands and their results. -/
def Obligations.CabinetCommandsAct : Prop :=
  ∀ (s : State) (parameter : Byte), s.atStart .cabinet →
    let p := s.part
    let taken := fun (code : Byte) (result : CommandResult) (effect : Option Part) =>
      let u := s.setTx .cabinet { Transaction.start with
        state := .ignoring, item := some 40, byteCount := 2, written := [code, parameter] }
      let v := match effect with
        | some e => u.conclude e
        | none => u
      (Host.Outcome.next { v with cabinet := { v.cabinet with
        lastCommand := some code, lastResult := result, commandCount := v.cabinet.commandCount + 1 } } :
        Host.Outcome State Fault Refusal)
    (p.power.level = .shed → exec (.testCall parameter) s = taken 16 .refusedPower none ∧
      exec (.startSweep parameter) s = taken 17 .refusedPower none) ∧
    (p.power.level ≠ .shed → p.test.state ≠ .idle →
      exec (.testCall parameter) s = taken 16 .refusedBusy none) ∧
    (p.power.level ≠ .shed → p.test.state = .idle → s.settings.opsDigits = [] →
      exec (.testCall parameter) s = taken 16 .refusedState none) ∧
    (p.power.level ≠ .shed → p.test.state = .idle → s.settings.opsDigits ≠ [] →
      exec (.testCall parameter) s = taken 16 .accepted (some
        (Part.claim s.settings { claimant := .test, requeued := false }
          { p with
            callSequence := p.callSequence + 1, testResult := .running, testSequence := p.callSequence + 1,
            test := { CallRec.initial with state := .queued, sequence := p.callSequence + 1 } }))) ∧
    (p.power.level ≠ .shed → p.survey.state = .notConfigured →
      exec (.startSweep parameter) s = taken 17 .refusedState none) ∧
    (p.power.level ≠ .shed → p.survey.state = .waiting ∨ p.survey.state = .sweeping ∨
      p.survey.state = .ending → exec (.startSweep parameter) s = taken 17 .refusedBusy none) ∧
    (p.power.level ≠ .shed → p.survey.state = .idle →
      exec (.startSweep parameter) s = taken 17 .accepted (some
        (Part.claim s.settings { claimant := .survey, requeued := false }
          { p with survey := { p.survey with state := .waiting, kind := some .full } }))) ∧
    exec (.clearTable parameter) s = taken 18 .accepted (some p.clearTable) ∧
    (∀ r, parameter.toNat = (if r = .rcu0 then 0 else 1) →
      ((p.radio r).broken = true →
        exec (.restoreRadio parameter) s = taken 19 .accepted (some (p.restoreRadio r))) ∧
      ((p.radio r).broken = false → exec (.restoreRadio parameter) s = taken 19 .refusedState none)) ∧
    (1 < parameter.toNat → exec (.restoreRadio parameter) s = taken 19 .badValue none) ∧
    (∀ code : Byte, code ∉ cabinetCodes → exec (.unknownCode code parameter) s = taken code .badValue none)

/-! ## Survey and power -/

/-- R42, R43, R41: the survey timer's expiry, by power level and background state. R174: the sample timer's. -/
def Obligations.PeriodicTimers : Prop :=
  ∀ (s : State), let p := s.part
    let g := s.settings
    let n := if p.survey.passCount < 3 then p.survey.passCount + 1 else 0
    let period := if p.power.level = .normal then g.surveyPeriod * 1000000 else 2 * (g.surveyPeriod * 1000000)
    let with' := fun (v : Survey) => { p with survey := v }
    (s.isHeld = false → p.survey.timer.isSome = true →
      (p.power.level = .shed →
        exec .surveyTimerExpiry s = .next (s.conclude (with' { p.survey with timer := some period }))) ∧
      (p.power.level ≠ .shed → p.survey.state = .notConfigured →
        exec .surveyTimerExpiry s = .next (s.conclude (with' { p.survey with timer := some period }))) ∧
      (p.power.level ≠ .shed → p.survey.state = .waiting ∨ p.survey.state = .sweeping ∨
        p.survey.state = .ending →
        exec .surveyTimerExpiry s = .next (s.conclude
          (with' { p.survey with timer := some period, passCount := n }))) ∧
      (p.power.level ≠ .shed → p.survey.state = .idle →
        exec .surveyTimerExpiry s = .next (s.conclude
          (Part.claim g { claimant := .survey, requeued := false }
            (with' { state := .waiting, timer := some period, passCount := n,
                     kind := some (if n = 0 ∨ p.eligibleCount g < 3 then .full else .refresh) }))))) ∧
    (∀ v, p.power.sampleTimer.isSome = true →
      exec (.sampleTimerExpiry v) s = .next (s.modPart fun p =>
        Part.requestConversion .battery { p.setLine .battery v with
          power := { p.power with sampleTimer := some 2000000 } }))

/-- R176: the target a battery code names. R177: two samples in a row in one direction change the level, to
the nearer of their targets. R54, R143, R179, Table 10-5: what the entry to SHED ends, and which RCUs then go OFF
(R74). R54: when an ENDING sweep ends, and what its end does. That a BOOTING RCU goes OFF when its assignment ends, and
does not await READY first, is the model's choice (log 36). That phase NONE before the first item is the case of the waking RCU is the model's reading (log 20). -/
def Obligations.BatterySamplesMoveTheLevel : Prop :=
  (∀ (g : Settings) (b : Nat), g.shedCode + 2 ≤ g.warnCode →
    (sampleTarget g .normal b = some .shed ↔ b ≤ g.shedCode) ∧
    (sampleTarget g .normal b = some .warn ↔ g.shedCode < b ∧ b ≤ g.warnCode) ∧
    (sampleTarget g .normal b = none ↔ g.warnCode < b) ∧
    (sampleTarget g .warn b = some .shed ↔ b ≤ g.shedCode) ∧
    (sampleTarget g .warn b = none ↔ g.shedCode < b ∧ b < g.warnCode + 2) ∧
    (sampleTarget g .warn b = some .normal ↔ g.warnCode + 2 ≤ b) ∧
    (sampleTarget g .shed b = none ↔ b < g.shedCode + 2) ∧
    (sampleTarget g .shed b = some .warn ↔ g.shedCode + 2 ≤ b ∧ b < g.warnCode + 2) ∧
    (sampleTarget g .shed b = some .normal ↔ g.warnCode + 2 ≤ b)) ∧
  (∀ (g : Settings) (b : Nat) (m : PowerMonitor), let n := m.sample g b
    n.battery = b ∧ n.resetCause = m.resetCause ∧ n.resetCount = m.resetCount ∧
    (sampleTarget g m.level b = none → n.level = m.level ∧ n.pendingTarget = none) ∧
    (∀ t, sampleTarget g m.level b = some t →
      (m.pendingTarget = none → n.level = m.level ∧ n.pendingTarget = some t) ∧
      (∀ u, m.pendingTarget = some u →
        let down := fun (x : PowerLevel) => m.level.code < x.code
        let far := fun (x : PowerLevel) => (x.code - m.level.code) + (m.level.code - x.code)
        let nearer := if far t < far u then t else u
        ((down t ↔ down u) → n.level = nearer ∧ n.pendingTarget = none) ∧
        (¬ (down t ↔ down u) → n.level = m.level ∧ n.pendingTarget = some t)))) ∧
  (∀ (g : Settings) (p : Part) (old : PowerLevel), let q := p.levelChanged g old
    let surveyEnds := q.survey = { p.survey with
      state := if g.listHasItem then .idle else .notConfigured, kind := none }
    (p.power.level ≠ .shed ∨ old = .shed → q = p) ∧
    (p.power.level = .shed → old ≠ .shed →
      q.window = none ∧ (∀ k, q.call k = p.call k) ∧ q.power = p.power ∧
      (p.survey.state = .notConfigured ∨ p.survey.state = .idle ∨ p.survey.state = .ending →
        q.survey = p.survey ∧ q.claims = p.claims) ∧
      (p.survey.state = .waiting →
        surveyEnds ∧ q.claims = p.claims.filter fun w => w.claimant != .survey) ∧
      (∀ r c, p.survey.state = .sweeping → p.rcuOf .survey = some r → (p.radio r).sweep = some c →
        let atOnce := (c.phase = .none ∧ c.cursor = none) ∨
          (c.phase = .measuring ∧ (p.radio r).measurement.phase = .sampling)
        q.claims = p.claims ∧ (q.radio r).measurement.phase = .none ∧ (q.radio r).gate.mode = .idle ∧
        (atOnce → surveyEnds ∧ (q.radio r).sweep = none ∧ (q.radio r).holder = none) ∧
        (¬ atOnce → q.survey = { p.survey with state := .ending } ∧ (q.radio r).holder = some .survey ∧
          (q.radio r).sweep = some { c with state := .ending, phase := .none, item := none, pair := none } ∧
          ∀ o, (p.radio r).slot = some o → o.issuer = .holder → o.phase ≠ .retired →
            ∃ x, (q.radio r).slot = some { o with phase := .retired, limit := none, cancel := some x } ∧
              x.phase = .ackWait)))) ∧
  (∀ (g : Settings) (p : Part) (r : RcuId),
    ((Reaction.endSweep r).enabled p = true ↔
      (∃ c, (p.radio r).sweep = some c ∧ c.state = .ending) ∧ (p.radio r).slot = none) ∧
    (∀ c, (p.radio r).sweep = some c → let q := (Reaction.endSweep r).run g p
      (q.radio r).sweep = none ∧ (q.radio r).holder = none ∧ q.radio r.other = p.radio r.other ∧
      q.survey = { p.survey with state := if g.listHasItem then .idle else .notConfigured, kind := none } ∧
      q.claims = p.claims ∧ q.window = p.window ∧ ∀ k, q.call k = p.call k)) ∧
  (∀ (g : Settings) (p : Part) (r : RcuId), let x := p.radio r
    ((Reaction.goOff r).enabled p = true ↔ p.power.level = .shed ∧ x.holder = none ∧ x.slot = none ∧
      (x.condition = .booting ∨ x.condition = .doze ∨ x.condition = .awake) ∧
      ((r = .rcu0 → p.radio0.broken = true) ∧ (r = .rcu1 → p.radio0.broken = true → p.radio1.broken = true))) ∧
    ∀ y, y = ((Reaction.goOff r).run g p).radio r → y.condition = .off ∧ y.slot = none ∧
      y.readyTimer = none ∧ y.dozeTimer = none ∧ y.holder = x.holder)

/-! ## The Arbiter -/

/-- R82: the claim queue stays in priority order, and a claimant joins behind all that it does not pass. R83,
R84, R87, R88: how a claim is resolved. R84: the order of nearness. R71: the bring-up of an assigned RCU, whose WAKE
goes out though the assignment ends before it. R85, R41, R98: what a grant leaves. R64, R89, R53, R119: what a
preemption leaves, and R86 a release. A sweep preempted at the instant of an outcome has not begun its next item, and
its MEASURE is taken back (R53, log 28). That the RCU's own RELEASE ends a stranger's call under a CLEARING record
too is the model's choice (log 30), and so is the cleared measurement record at the end of continuous mode (log 34).
The mark by which the WAKE follows a DOZE in flight is the model's reading of R71 (log 23, DEDUCED), and that an
unassigned RCU sends it in SHED too, where R74 would turn it OFF, is its choice (log 38, DESIGN CHOICE). R85, R90: when the
head of the queue is granted an RCU, and when it preempts. -/
def Obligations.ClaimsAreResolvedInOrder : Prop :=
  (∀ (w : Waiting) (claims : List Waiting), claims.Pairwise (fun a b => a.rank ≤ b.rank) →
    (joinQueue w claims).Pairwise (fun a b => a.rank ≤ b.rank) ∧
    (∃ front back, claims = front ++ back ∧ joinQueue w claims = front ++ w :: back ∧
      (∀ x ∈ front, x.rank ≤ w.rank) ∧ (∀ x ∈ back, w.rank < x.rank)) ∧
    (∀ a b : Waiting, a.claimant.isPanel = true → b.claimant.isPanel = false → a.rank < b.rank) ∧
    (∀ a b : Waiting, a.claimant.isPanel = true → b.claimant.isPanel = true → a.requeued = true →
      b.requeued = false → a.rank < b.rank) ∧
    (∀ a b : Waiting, a.claimant = .test → b.claimant = .survey → a.rank < b.rank)) ∧
  (∀ (g : Settings) (p : Part) (w : Waiting), p.rcuOf w.claimant = none → p.waits w.claimant = false →
    let ahead := ∃ x ∈ p.claims, x.rank ≤ w.rank
    (∀ r, ¬ ahead → p.grantNow = some r → p.claim g w = p.grant g w.claimant r) ∧
    (∀ r, (ahead ∨ p.grantNow = none) → w.claimant.isPanel = true → p.victimRcu = some r →
      p.claim g w = p.preempt g w.claimant r) ∧
    ((ahead ∨ p.grantNow = none) → (w.claimant.isPanel = false ∨ p.victimRcu = none) →
      p.claim g w = { p with claims := joinQueue w p.claims }) ∧
    (∀ r, p.grantNow = some r → (p.radio r).holder = none ∧ (p.radio r).broken = false ∧
      (p.power.level = .shed → (p.radio r.other).holder = none)) ∧
    (∀ r, (p.radio r).grantable = true → p.power.level ≠ .shed → ∃ r', p.grantNow = some r' ∧
      (p.radio r').condition.distance ≤ (p.radio r).condition.distance) ∧
    (∀ r, p.victimRcu = some r →
      (p.radio r).holder = some .survey ∨
      ((p.radio r).holder = some .test ∧ p.rcuOf .survey = none) ∨
      ((p.radio r).holder = some .window ∧ p.rcuOf .survey = none ∧ p.rcuOf .test = none))) ∧
  (Condition.awake.distance < Condition.waking.distance ∧ Condition.waking.distance < Condition.inCall.distance ∧
    Condition.inCall.distance < Condition.doze.distance ∧ Condition.doze.distance < Condition.booting.distance ∧
    Condition.booting.distance < Condition.off.distance ∧
    ∀ p : Part, (∀ r, (p.radio r).grantable = true) → p.radio0.condition = p.radio1.condition →
      p.nearest = some .rcu0) ∧
  (∀ (g : Settings) (p : Part) (r : RcuId) (x : Radio), let y := { x with dozeTimer := none }
    (x.condition = .off → x.bringUp = { y with condition := .booting, readyTimer := some 12000000 }) ∧
    (x.condition = .doze → x.slot = none →
      x.bringUp = { Radio.send .wake .rcu y with condition := .waking, wakeDue := false }) ∧
    (x.condition = .doze → x.slot ≠ none → x.bringUp = { y with wakeDue := true }) ∧
    (x.condition ≠ .off → x.condition ≠ .doze → x.bringUp = y) ∧
    ((Reaction.wake r).enabled p = true ↔ (p.radio r).condition = .doze ∧ (p.radio r).slot = none ∧
      ((p.radio r).holder ≠ none ∨ (p.radio r).wakeDue = true)) ∧
    (Reaction.wake r).run g p = p.modRadio r fun x =>
      { Radio.send .wake .rcu x with condition := .waking, wakeDue := false }) ∧
  (∀ (g : Settings) (p : Part) (h : Holder) (r : RcuId), let q := p.grant g h r
    let up := Radio.bringUp { p.radio r with holder := some h }
    q.claims = (p.claims.filter fun w => w.claimant != h) ∧ q.radio r.other = p.radio r.other ∧
    (h = .survey → q.survey = { p.survey with state := .sweeping } ∧ q.radio r = { up with
      sweep := some (Sweep.create (if p.survey.kind = some .refresh then .refresh else .full)) }) ∧
    (∀ k : RecId, h = k.holder → let c := p.call k
      q.radio r = up ∧ (∀ k', k' ≠ k → q.call k' = p.call k') ∧
      (c.droppedKey = none →
        q.call k = { c with state := .seeking, step := .start, radioHeld := true }) ∧
      (c.droppedKey ≠ none →
        q.call k = { c with state := .seeking, step := .next, radioHeld := true, cursor := 0,
                            plan := p.regainPlan g c.droppedKey, blindTried := false, dialled := false,
                            droppedKey := none }))) ∧
  (∀ (p : Part) (r : RcuId) (o : Pending), let q := p.releaseRcu r
    (q.radio r).holder = none ∧ (q.radio r).answerTimer = none ∧ q.radio r.other = p.radio r.other ∧
    ((p.radio r).condition = .camped → (q.radio r).condition = .awake) ∧
    ((p.radio r).condition ≠ .camped → (q.radio r).condition = (p.radio r).condition) ∧
    ((p.radio r).measurement.requester = some .callManager →
      (q.radio r).measurement = Measurement.cleared ∧ (q.radio r).gate.mode = .idle) ∧
    ((p.radio r).slot = none → (q.radio r).slot = none) ∧
    ((p.radio r).slot = some o →
      (o.issuer = .holder → o.phase ≠ .retired → (q.radio r).slot = some { o with
        phase := .retired, limit := none,
        cancel := some { tag := (p.radio r).tagCounter, phase := .ackWait, limit := 500000 } }) ∧
      (o.issuer = .rcu ∨ o.phase = .retired → (q.radio r).slot = some o))) ∧
  (∀ (g : Settings) (p : Part) (d : Side) (r : RcuId) (old : Holder), (p.radio r).holder = some old →
    old.isPanel = false → let q := p.preempt g d.record.holder r
      (q.radio r).holder = some d.record.holder ∧ q.waits d.record.holder = false ∧
      (q.call d.record).state = .seeking ∧ q.call d.other.record = p.call d.other.record ∧
      q.radio r.other = p.radio r.other ∧ (q.radio r).answerTimer = none ∧
      (∀ o, (p.radio r).begunNow = false → (p.radio r).slot = some o → o.issuer = .holder → o.phase ≠ .retired →
        (q.radio r).slot = some { o with
          phase := .retired, limit := none,
          cancel := some { tag := (p.radio r).tagCounter, phase := .ackWait, limit := 500000 } }) ∧
      ((p.radio r).begunNow = true → (p.radio r).condition = .awake → (q.radio r).slot = none ∧
        (q.radio r).tagCounter = (if 1 < (p.radio r).tagCounter then (p.radio r).tagCounter - 1 else 15) ∧
        (q.radio r).txQueue = (p.radio r).txQueue.dropLast) ∧
      ((p.radio r).condition = .camped → (q.radio r).condition = .awake) ∧
      (old = .window → q.window = none) ∧ (old ≠ .window → q.window = p.window) ∧
      (old = .survey → (q.radio r).sweep = none ∧ q.survey = { p.survey with
        state := if g.listHasItem then .idle else .notConfigured, kind := none }) ∧
      (old ≠ .survey → q.survey = p.survey) ∧
      (old = .test → q.test.state = .idle ∧ (q.radio r).sweep = none ∧
        (p.testResult = .running →
          q.testResult = .preempted ∧ q.test.lastCause = .preempted ∧ q.notices.testDone = true) ∧
        (p.testResult ≠ .running → q.testResult = p.testResult)) ∧
      (old ≠ .test → q.test = p.test ∧ q.testResult = p.testResult)) ∧
  (∀ (g : Settings) (p : Part),
    (Reaction.serve.enabled p = true ↔ p.claims ≠ [] ∧ p.grantNow ≠ none) ∧
    (∀ w rest r, p.claims = w :: rest → p.grantNow = some r →
      Reaction.serve.run g p = p.grant g w.claimant r) ∧
    (Reaction.preemptWaiting.enabled p = true ↔
      (∃ w rest, p.claims = w :: rest ∧ w.claimant.isPanel = true) ∧ p.victimRcu ≠ none) ∧
    (∀ w rest r, p.claims = w :: rest → p.victimRcu = some r →
      Reaction.preemptWaiting.run g p = p.preempt g w.claimant r)) ∧
  (∀ (g : Settings) (p : Part) (r : RcuId), ((Reaction.releaseCall r).enabled p = true ↔
      (p.radio r).condition = .inCall ∧ (p.radio r).slot = none ∧
      ∀ k : RecId, (p.radio r).holder = some k.holder →
        (p.call k).state = .seeking ∨ ((p.call k).state = .clearing ∧ (p.call k).attempt = none)) ∧
    (Reaction.releaseCall r).run g p = p.modRadio r (Radio.send .release .rcu))

/-! ## Invariants of every step -/

/-- R160 to R165: the Site Settings stay in their ranges. -/
def Obligations.SettingsStayInRange : Prop :=
  ∀ (s t : State), s.settings.Ok → step s = .next t → t.settings.Ok

/-- R1, R128: the table keeps its 24 slots and no key twice. The stack holds at most 4 keys, none twice. -/
def Obligations.KeysStayUnique : Prop :=
  ∀ (s t : State), s.part.Keyed → step s = .next t → t.part.Keyed

/-- R2, R24, R31, R57, R77: levels, qualities, ages, failures, codes, tags and fault counts stay in their
ranges. -/
def Obligations.MeasuredValuesStayInRange : Prop :=
  ∀ (s t : State), s.settings.Ok → s.part.InRange → step s = .next t → t.part.InRange

/-- R81, R117: a holder holds at most one RCU and does not wait while it holds one, no FAULTED or DISABLED RCU
is assigned, and a voice path is closed only to the RCU of a CONNECTED record. -/
def Obligations.VoicePathsFollowConnectedCalls : Prop :=
  ∀ (s t : State), s.part.Owned → step s = .next t → t.part.Owned

/-- The state after reset satisfies every invariant. -/
def Obligations.ResetIsSafe : Prop :=
  State.reset.settings.Ok ∧ State.reset.part.Keyed ∧ State.reset.part.InRange ∧ State.reset.part.Owned
end

