-- ==== Sys2Proof/Laws/State.lean ====
section
/-! SUPPORT. Small lemmas of the named accessors of Machine/Ops.lean: what each update reads back as, and what it
leaves alone. -/

namespace Sys2Proof.Machine

/-! ## RCUs -/

@[simp] theorem Part.radio_setRadio_self (p : Part) (r : RcuId) (x : Radio) :
    (p.setRadio r x).radio r = x := by cases r <;> rfl

@[simp] theorem Part.radio_setRadio_other (p : Part) (r : RcuId) (x : Radio) :
    (p.setRadio r x).radio r.other = p.radio r.other := by cases r <;> rfl

theorem Part.radio_setRadio_ne (p : Part) (r r' : RcuId) (x : Radio) (h : r' ≠ r) :
    (p.setRadio r x).radio r' = p.radio r' := by cases r <;> cases r' <;> first | rfl | contradiction

@[simp] theorem Part.setRadio_setRadio (p : Part) (r : RcuId) (x y : Radio) :
    (p.setRadio r x).setRadio r y = p.setRadio r y := by cases r <;> rfl

@[simp] theorem Part.setRadio_radio (p : Part) (r : RcuId) : p.setRadio r (p.radio r) = p := by
  cases r <;> rfl

@[simp] theorem Part.radio_modRadio_self (p : Part) (r : RcuId) (f : Radio → Radio) :
    (p.modRadio r f).radio r = f (p.radio r) := by cases r <;> rfl

@[simp] theorem Part.radio_modRadio_other (p : Part) (r : RcuId) (f : Radio → Radio) :
    (p.modRadio r f).radio r.other = p.radio r.other := by cases r <;> rfl

@[simp] theorem Part.modRadio_modRadio (p : Part) (r : RcuId) (f g : Radio → Radio) :
    (p.modRadio r f).modRadio r g = p.modRadio r fun x => g (f x) := by cases r <;> rfl

@[simp] theorem Part.table_setRadio (p : Part) (r : RcuId) (x : Radio) :
    (p.setRadio r x).table = p.table := by cases r <;> rfl

@[simp] theorem Part.ageTimer_setRadio (p : Part) (r : RcuId) (x : Radio) :
    (p.setRadio r x).ageTimer = p.ageTimer := by cases r <;> rfl

@[simp] theorem Part.converter_setRadio (p : Part) (r : RcuId) (x : Radio) :
    (p.setRadio r x).converter = p.converter := by cases r <;> rfl

@[simp] theorem Part.lines_setRadio (p : Part) (r : RcuId) (x : Radio) :
    (p.setRadio r x).lines = p.lines := by cases r <;> rfl

@[simp] theorem Part.frameClock_setRadio (p : Part) (r : RcuId) (x : Radio) :
    (p.setRadio r x).frameClock = p.frameClock := by cases r <;> rfl

@[simp] theorem Part.survey_setRadio (p : Part) (r : RcuId) (x : Radio) :
    (p.setRadio r x).survey = p.survey := by cases r <;> rfl

@[simp] theorem Part.claims_setRadio (p : Part) (r : RcuId) (x : Radio) :
    (p.setRadio r x).claims = p.claims := by cases r <;> rfl

@[simp] theorem Part.sideA_setRadio (p : Part) (r : RcuId) (x : Radio) :
    (p.setRadio r x).sideA = p.sideA := by cases r <;> rfl

@[simp] theorem Part.sideB_setRadio (p : Part) (r : RcuId) (x : Radio) :
    (p.setRadio r x).sideB = p.sideB := by cases r <;> rfl

@[simp] theorem Part.test_setRadio (p : Part) (r : RcuId) (x : Radio) :
    (p.setRadio r x).test = p.test := by cases r <;> rfl

@[simp] theorem Part.callSequence_setRadio (p : Part) (r : RcuId) (x : Radio) :
    (p.setRadio r x).callSequence = p.callSequence := by cases r <;> rfl

@[simp] theorem Part.secondTimer_setRadio (p : Part) (r : RcuId) (x : Radio) :
    (p.setRadio r x).secondTimer = p.secondTimer := by cases r <;> rfl

@[simp] theorem Part.stack_setRadio (p : Part) (r : RcuId) (x : Radio) :
    (p.setRadio r x).stack = p.stack := by cases r <;> rfl

@[simp] theorem Part.window_setRadio (p : Part) (r : RcuId) (x : Radio) :
    (p.setRadio r x).window = p.window := by cases r <;> rfl

@[simp] theorem Part.voiceA_setRadio (p : Part) (r : RcuId) (x : Radio) :
    (p.setRadio r x).voiceA = p.voiceA := by cases r <;> rfl

@[simp] theorem Part.voiceB_setRadio (p : Part) (r : RcuId) (x : Radio) :
    (p.setRadio r x).voiceB = p.voiceB := by cases r <;> rfl

@[simp] theorem Part.testResult_setRadio (p : Part) (r : RcuId) (x : Radio) :
    (p.setRadio r x).testResult = p.testResult := by cases r <;> rfl

@[simp] theorem Part.testSequence_setRadio (p : Part) (r : RcuId) (x : Radio) :
    (p.setRadio r x).testSequence = p.testSequence := by cases r <;> rfl

@[simp] theorem Part.power_setRadio (p : Part) (r : RcuId) (x : Radio) :
    (p.setRadio r x).power = p.power := by cases r <;> rfl

@[simp] theorem Part.notices_setRadio (p : Part) (r : RcuId) (x : Radio) :
    (p.setRadio r x).notices = p.notices := by cases r <;> rfl

@[simp] theorem Part.table_modRadio (p : Part) (r : RcuId) (f : Radio → Radio) :
    (p.modRadio r f).table = p.table := by cases r <;> rfl

@[simp] theorem Part.ageTimer_modRadio (p : Part) (r : RcuId) (f : Radio → Radio) :
    (p.modRadio r f).ageTimer = p.ageTimer := by cases r <;> rfl

@[simp] theorem Part.converter_modRadio (p : Part) (r : RcuId) (f : Radio → Radio) :
    (p.modRadio r f).converter = p.converter := by cases r <;> rfl

@[simp] theorem Part.lines_modRadio (p : Part) (r : RcuId) (f : Radio → Radio) :
    (p.modRadio r f).lines = p.lines := by cases r <;> rfl

@[simp] theorem Part.frameClock_modRadio (p : Part) (r : RcuId) (f : Radio → Radio) :
    (p.modRadio r f).frameClock = p.frameClock := by cases r <;> rfl

@[simp] theorem Part.survey_modRadio (p : Part) (r : RcuId) (f : Radio → Radio) :
    (p.modRadio r f).survey = p.survey := by cases r <;> rfl

@[simp] theorem Part.claims_modRadio (p : Part) (r : RcuId) (f : Radio → Radio) :
    (p.modRadio r f).claims = p.claims := by cases r <;> rfl

@[simp] theorem Part.sideA_modRadio (p : Part) (r : RcuId) (f : Radio → Radio) :
    (p.modRadio r f).sideA = p.sideA := by cases r <;> rfl

@[simp] theorem Part.sideB_modRadio (p : Part) (r : RcuId) (f : Radio → Radio) :
    (p.modRadio r f).sideB = p.sideB := by cases r <;> rfl

@[simp] theorem Part.test_modRadio (p : Part) (r : RcuId) (f : Radio → Radio) :
    (p.modRadio r f).test = p.test := by cases r <;> rfl

@[simp] theorem Part.callSequence_modRadio (p : Part) (r : RcuId) (f : Radio → Radio) :
    (p.modRadio r f).callSequence = p.callSequence := by cases r <;> rfl

@[simp] theorem Part.secondTimer_modRadio (p : Part) (r : RcuId) (f : Radio → Radio) :
    (p.modRadio r f).secondTimer = p.secondTimer := by cases r <;> rfl

@[simp] theorem Part.stack_modRadio (p : Part) (r : RcuId) (f : Radio → Radio) :
    (p.modRadio r f).stack = p.stack := by cases r <;> rfl

@[simp] theorem Part.window_modRadio (p : Part) (r : RcuId) (f : Radio → Radio) :
    (p.modRadio r f).window = p.window := by cases r <;> rfl

@[simp] theorem Part.voiceA_modRadio (p : Part) (r : RcuId) (f : Radio → Radio) :
    (p.modRadio r f).voiceA = p.voiceA := by cases r <;> rfl

@[simp] theorem Part.voiceB_modRadio (p : Part) (r : RcuId) (f : Radio → Radio) :
    (p.modRadio r f).voiceB = p.voiceB := by cases r <;> rfl

@[simp] theorem Part.testResult_modRadio (p : Part) (r : RcuId) (f : Radio → Radio) :
    (p.modRadio r f).testResult = p.testResult := by cases r <;> rfl

@[simp] theorem Part.testSequence_modRadio (p : Part) (r : RcuId) (f : Radio → Radio) :
    (p.modRadio r f).testSequence = p.testSequence := by cases r <;> rfl

@[simp] theorem Part.power_modRadio (p : Part) (r : RcuId) (f : Radio → Radio) :
    (p.modRadio r f).power = p.power := by cases r <;> rfl

@[simp] theorem Part.notices_modRadio (p : Part) (r : RcuId) (f : Radio → Radio) :
    (p.modRadio r f).notices = p.notices := by cases r <;> rfl

@[simp] theorem Part.call_setRadio (p : Part) (r : RcuId) (x : Radio) (k : RecId) :
    (p.setRadio r x).call k = p.call k := by cases r <;> cases k <;> rfl

@[simp] theorem Part.call_modRadio (p : Part) (r : RcuId) (f : Radio → Radio) (k : RecId) :
    (p.modRadio r f).call k = p.call k := by cases r <;> cases k <;> rfl

@[simp] theorem Part.isHeld_modRadio (p : Part) (r : RcuId) (f : Radio → Radio) :
    (p.modRadio r f).isHeld = p.isHeld := by cases r <;> rfl

/-! ## Call records -/

@[simp] theorem Part.call_setCall_self (p : Part) (k : RecId) (c : CallRec) : (p.setCall k c).call k = c := by
  cases k <;> rfl

theorem Part.call_setCall_ne (p : Part) (k k' : RecId) (c : CallRec) (h : k' ≠ k) :
    (p.setCall k c).call k' = p.call k' := by cases k <;> cases k' <;> first | rfl | contradiction

@[simp] theorem Part.call_modCall_self (p : Part) (k : RecId) (f : CallRec → CallRec) :
    (p.modCall k f).call k = f (p.call k) := by cases k <;> rfl

theorem Part.call_modCall_ne (p : Part) (k k' : RecId) (f : CallRec → CallRec) (h : k' ≠ k) :
    (p.modCall k f).call k' = p.call k' := by cases k <;> cases k' <;> first | rfl | contradiction

@[simp] theorem Part.modCall_modCall (p : Part) (k : RecId) (f g : CallRec → CallRec) :
    (p.modCall k f).modCall k g = p.modCall k fun c => g (f c) := by cases k <;> rfl

@[simp] theorem Part.radio_setCall (p : Part) (k : RecId) (c : CallRec) (r : RcuId) :
    (p.setCall k c).radio r = p.radio r := by cases k <;> cases r <;> rfl

@[simp] theorem Part.radio_modCall (p : Part) (k : RecId) (f : CallRec → CallRec) (r : RcuId) :
    (p.modCall k f).radio r = p.radio r := by cases k <;> cases r <;> rfl

@[simp] theorem Part.rcuOf_setCall (p : Part) (k : RecId) (c : CallRec) (h : Holder) :
    (p.setCall k c).rcuOf h = p.rcuOf h := by cases k <;> rfl

@[simp] theorem Part.rcuOf_modCall (p : Part) (k : RecId) (f : CallRec → CallRec) (h : Holder) :
    (p.modCall k f).rcuOf h = p.rcuOf h := by cases k <;> rfl

@[simp] theorem Part.table_setCall (p : Part) (k : RecId) (c : CallRec) :
    (p.setCall k c).table = p.table := by cases k <;> rfl

@[simp] theorem Part.ageTimer_setCall (p : Part) (k : RecId) (c : CallRec) :
    (p.setCall k c).ageTimer = p.ageTimer := by cases k <;> rfl

@[simp] theorem Part.radio0_setCall (p : Part) (k : RecId) (c : CallRec) :
    (p.setCall k c).radio0 = p.radio0 := by cases k <;> rfl

@[simp] theorem Part.radio1_setCall (p : Part) (k : RecId) (c : CallRec) :
    (p.setCall k c).radio1 = p.radio1 := by cases k <;> rfl

@[simp] theorem Part.converter_setCall (p : Part) (k : RecId) (c : CallRec) :
    (p.setCall k c).converter = p.converter := by cases k <;> rfl

@[simp] theorem Part.lines_setCall (p : Part) (k : RecId) (c : CallRec) :
    (p.setCall k c).lines = p.lines := by cases k <;> rfl

@[simp] theorem Part.frameClock_setCall (p : Part) (k : RecId) (c : CallRec) :
    (p.setCall k c).frameClock = p.frameClock := by cases k <;> rfl

@[simp] theorem Part.survey_setCall (p : Part) (k : RecId) (c : CallRec) :
    (p.setCall k c).survey = p.survey := by cases k <;> rfl

@[simp] theorem Part.claims_setCall (p : Part) (k : RecId) (c : CallRec) :
    (p.setCall k c).claims = p.claims := by cases k <;> rfl

@[simp] theorem Part.callSequence_setCall (p : Part) (k : RecId) (c : CallRec) :
    (p.setCall k c).callSequence = p.callSequence := by cases k <;> rfl

@[simp] theorem Part.secondTimer_setCall (p : Part) (k : RecId) (c : CallRec) :
    (p.setCall k c).secondTimer = p.secondTimer := by cases k <;> rfl

@[simp] theorem Part.stack_setCall (p : Part) (k : RecId) (c : CallRec) :
    (p.setCall k c).stack = p.stack := by cases k <;> rfl

@[simp] theorem Part.window_setCall (p : Part) (k : RecId) (c : CallRec) :
    (p.setCall k c).window = p.window := by cases k <;> rfl

@[simp] theorem Part.voiceA_setCall (p : Part) (k : RecId) (c : CallRec) :
    (p.setCall k c).voiceA = p.voiceA := by cases k <;> rfl

@[simp] theorem Part.voiceB_setCall (p : Part) (k : RecId) (c : CallRec) :
    (p.setCall k c).voiceB = p.voiceB := by cases k <;> rfl

@[simp] theorem Part.testResult_setCall (p : Part) (k : RecId) (c : CallRec) :
    (p.setCall k c).testResult = p.testResult := by cases k <;> rfl

@[simp] theorem Part.testSequence_setCall (p : Part) (k : RecId) (c : CallRec) :
    (p.setCall k c).testSequence = p.testSequence := by cases k <;> rfl

@[simp] theorem Part.power_setCall (p : Part) (k : RecId) (c : CallRec) :
    (p.setCall k c).power = p.power := by cases k <;> rfl

@[simp] theorem Part.notices_setCall (p : Part) (k : RecId) (c : CallRec) :
    (p.setCall k c).notices = p.notices := by cases k <;> rfl

@[simp] theorem Part.table_modCall (p : Part) (k : RecId) (f : CallRec → CallRec) :
    (p.modCall k f).table = p.table := by cases k <;> rfl

@[simp] theorem Part.ageTimer_modCall (p : Part) (k : RecId) (f : CallRec → CallRec) :
    (p.modCall k f).ageTimer = p.ageTimer := by cases k <;> rfl

@[simp] theorem Part.radio0_modCall (p : Part) (k : RecId) (f : CallRec → CallRec) :
    (p.modCall k f).radio0 = p.radio0 := by cases k <;> rfl

@[simp] theorem Part.radio1_modCall (p : Part) (k : RecId) (f : CallRec → CallRec) :
    (p.modCall k f).radio1 = p.radio1 := by cases k <;> rfl

@[simp] theorem Part.converter_modCall (p : Part) (k : RecId) (f : CallRec → CallRec) :
    (p.modCall k f).converter = p.converter := by cases k <;> rfl

@[simp] theorem Part.lines_modCall (p : Part) (k : RecId) (f : CallRec → CallRec) :
    (p.modCall k f).lines = p.lines := by cases k <;> rfl

@[simp] theorem Part.frameClock_modCall (p : Part) (k : RecId) (f : CallRec → CallRec) :
    (p.modCall k f).frameClock = p.frameClock := by cases k <;> rfl

@[simp] theorem Part.survey_modCall (p : Part) (k : RecId) (f : CallRec → CallRec) :
    (p.modCall k f).survey = p.survey := by cases k <;> rfl

@[simp] theorem Part.claims_modCall (p : Part) (k : RecId) (f : CallRec → CallRec) :
    (p.modCall k f).claims = p.claims := by cases k <;> rfl

@[simp] theorem Part.callSequence_modCall (p : Part) (k : RecId) (f : CallRec → CallRec) :
    (p.modCall k f).callSequence = p.callSequence := by cases k <;> rfl

@[simp] theorem Part.secondTimer_modCall (p : Part) (k : RecId) (f : CallRec → CallRec) :
    (p.modCall k f).secondTimer = p.secondTimer := by cases k <;> rfl

@[simp] theorem Part.stack_modCall (p : Part) (k : RecId) (f : CallRec → CallRec) :
    (p.modCall k f).stack = p.stack := by cases k <;> rfl

@[simp] theorem Part.window_modCall (p : Part) (k : RecId) (f : CallRec → CallRec) :
    (p.modCall k f).window = p.window := by cases k <;> rfl

@[simp] theorem Part.voiceA_modCall (p : Part) (k : RecId) (f : CallRec → CallRec) :
    (p.modCall k f).voiceA = p.voiceA := by cases k <;> rfl

@[simp] theorem Part.voiceB_modCall (p : Part) (k : RecId) (f : CallRec → CallRec) :
    (p.modCall k f).voiceB = p.voiceB := by cases k <;> rfl

@[simp] theorem Part.testResult_modCall (p : Part) (k : RecId) (f : CallRec → CallRec) :
    (p.modCall k f).testResult = p.testResult := by cases k <;> rfl

@[simp] theorem Part.testSequence_modCall (p : Part) (k : RecId) (f : CallRec → CallRec) :
    (p.modCall k f).testSequence = p.testSequence := by cases k <;> rfl

@[simp] theorem Part.power_modCall (p : Part) (k : RecId) (f : CallRec → CallRec) :
    (p.modCall k f).power = p.power := by cases k <;> rfl

@[simp] theorem Part.notices_modCall (p : Part) (k : RecId) (f : CallRec → CallRec) :
    (p.modCall k f).notices = p.notices := by cases k <;> rfl

/-! ## The Voice Switch -/

@[simp] theorem Part.voice_setVoice_self (p : Part) (d : Side) (v : Option RcuId) :
    (p.setVoice d v).voice d = v := by cases d <;> rfl

@[simp] theorem Part.voice_setVoice_other (p : Part) (d : Side) (v : Option RcuId) :
    (p.setVoice d v).voice d.other = p.voice d.other := by cases d <;> rfl

@[simp] theorem Part.radio_setVoice (p : Part) (d : Side) (v : Option RcuId) (r : RcuId) :
    (p.setVoice d v).radio r = p.radio r := by cases d <;> cases r <;> rfl

@[simp] theorem Part.call_setVoice (p : Part) (d : Side) (v : Option RcuId) (k : RecId) :
    (p.setVoice d v).call k = p.call k := by cases d <;> cases k <;> rfl

@[simp] theorem Part.table_setVoice (p : Part) (d : Side) (v : Option RcuId) :
    (p.setVoice d v).table = p.table := by cases d <;> rfl

@[simp] theorem Part.converter_setVoice (p : Part) (d : Side) (v : Option RcuId) :
    (p.setVoice d v).converter = p.converter := by cases d <;> rfl

@[simp] theorem Part.stack_setVoice (p : Part) (d : Side) (v : Option RcuId) :
    (p.setVoice d v).stack = p.stack := by cases d <;> rfl

@[simp] theorem Part.claims_setVoice (p : Part) (d : Side) (v : Option RcuId) :
    (p.setVoice d v).claims = p.claims := by cases d <;> rfl

@[simp] theorem Part.window_setVoice (p : Part) (d : Side) (v : Option RcuId) :
    (p.setVoice d v).window = p.window := by cases d <;> rfl

@[simp] theorem Part.power_setVoice (p : Part) (d : Side) (v : Option RcuId) :
    (p.setVoice d v).power = p.power := by cases d <;> rfl

@[simp] theorem Part.survey_setVoice (p : Part) (d : Side) (v : Option RcuId) :
    (p.setVoice d v).survey = p.survey := by cases d <;> rfl

@[simp] theorem Part.testResult_setVoice (p : Part) (d : Side) (v : Option RcuId) :
    (p.setVoice d v).testResult = p.testResult := by cases d <;> rfl

/-! ## The whole part -/

@[simp] theorem State.tx_setTx_self (s : State) (q : PortId) (t : Transaction) : (s.setTx q t).tx q = t := by
  cases q <;> rfl

theorem State.tx_setTx_ne (s : State) (q q' : PortId) (t : Transaction) (h : q' ≠ q) :
    (s.setTx q t).tx q' = s.tx q' := by cases q <;> cases q' <;> first | rfl | contradiction

@[simp] theorem State.setTx_setTx (s : State) (q : PortId) (t u : Transaction) :
    (s.setTx q t).setTx q u = s.setTx q u := by cases q <;> rfl

@[simp] theorem State.tx_modTx_self (s : State) (q : PortId) (f : Transaction → Transaction) :
    (s.modTx q f).tx q = f (s.tx q) := by cases q <;> rfl

@[simp] theorem State.part_setTx (s : State) (q : PortId) (t : Transaction) :
    (s.setTx q t).part = s.part := by cases q <;> rfl

@[simp] theorem State.settings_setTx (s : State) (q : PortId) (t : Transaction) :
    (s.setTx q t).settings = s.settings := by cases q <;> rfl

@[simp] theorem State.pending_setTx (s : State) (q : PortId) (t : Transaction) :
    (s.setTx q t).pending = s.pending := by cases q <;> rfl

@[simp] theorem State.part_modTx (s : State) (q : PortId) (f : Transaction → Transaction) :
    (s.modTx q f).part = s.part := by cases q <;> rfl

@[simp] theorem State.settings_modTx (s : State) (q : PortId) (f : Transaction → Transaction) :
    (s.modTx q f).settings = s.settings := by cases q <;> rfl

@[simp] theorem State.pending_modTx (s : State) (q : PortId) (f : Transaction → Transaction) :
    (s.modTx q f).pending = s.pending := by cases q <;> rfl

@[simp] theorem State.part_setPanel (s : State) (d : Side) (x : PanelPort) :
    (s.setPanel d x).part = s.part := by cases d <;> rfl

@[simp] theorem State.settings_setPanel (s : State) (d : Side) (x : PanelPort) :
    (s.setPanel d x).settings = s.settings := by cases d <;> rfl

@[simp] theorem State.pending_setPanel (s : State) (d : Side) (x : PanelPort) :
    (s.setPanel d x).pending = s.pending := by cases d <;> rfl

@[simp] theorem State.part_modPanel (s : State) (d : Side) (f : PanelPort → PanelPort) :
    (s.modPanel d f).part = s.part := by cases d <;> rfl

@[simp] theorem State.settings_modPanel (s : State) (d : Side) (f : PanelPort → PanelPort) :
    (s.modPanel d f).settings = s.settings := by cases d <;> rfl

@[simp] theorem State.pending_modPanel (s : State) (d : Side) (f : PanelPort → PanelPort) :
    (s.modPanel d f).pending = s.pending := by cases d <;> rfl

@[simp] theorem State.settings_modPart (s : State) (f : Part → Part) :
    (s.modPart f).settings = s.settings := by rfl

@[simp] theorem State.panelA_modPart (s : State) (f : Part → Part) :
    (s.modPart f).panelA = s.panelA := by rfl

@[simp] theorem State.panelB_modPart (s : State) (f : Part → Part) :
    (s.modPart f).panelB = s.panelB := by rfl

@[simp] theorem State.cabinet_modPart (s : State) (f : Part → Part) :
    (s.modPart f).cabinet = s.cabinet := by rfl

@[simp] theorem State.pending_modPart (s : State) (f : Part → Part) :
    (s.modPart f).pending = s.pending := by rfl

@[simp] theorem State.part_modPart (s : State) (f : Part → Part) : (s.modPart f).part = f s.part := rfl

@[simp] theorem State.modPart_modPart (s : State) (f g : Part → Part) :
    (s.modPart f).modPart g = s.modPart fun p => g (f p) := rfl

@[simp] theorem State.isHeld_setTx (s : State) (q : PortId) (t : Transaction) :
    (s.setTx q t).isHeld = s.isHeld := by cases q <;> rfl

@[simp] theorem State.isHeld_modTx (s : State) (q : PortId) (f : Transaction → Transaction) :
    (s.modTx q f).isHeld = s.isHeld := by cases q <;> rfl

@[simp] theorem State.panel_setPanel_self (s : State) (d : Side) (x : PanelPort) :
    (s.setPanel d x).panel d = x := by cases d <;> rfl

@[simp] theorem State.panel_modPanel_self (s : State) (d : Side) (f : PanelPort → PanelPort) :
    (s.modPanel d f).panel d = f (s.panel d) := by cases d <;> rfl

end Sys2Proof.Machine
end

