-- ==== Sys2Proof/Laws/Events.lean ====
section
/-! SUPPORT. What an event can do: the end of an event, a quiet event, and how to carry a property through the
reactions. -/

namespace Sys2Proof.Machine

theorem State.event_running (s : State) (f : Settings → Part → Part) (h : s.isHeld = false) :
    s.event f = s.conclude (f s.settings s.part) := by simp [State.event, h]

theorem State.event_held (s : State) (f : Settings → Part → Part) (h : s.isHeld = true) : s.event f = s := by
  simp [State.event, h]

@[simp] theorem State.settings_conclude (s : State) (p : Part) : (s.conclude p).settings = s.settings := rfl

@[simp] theorem State.pending_conclude (s : State) (p : Part) : (s.conclude p).pending = s.pending := rfl

@[simp] theorem State.settings_event (s : State) (f : Settings → Part → Part) :
    (s.event f).settings = s.settings := by unfold State.event; split <;> rfl

@[simp] theorem State.pending_event (s : State) (f : Settings → Part → Part) :
    (s.event f).pending = s.pending := by unfold State.event; split <;> rfl

@[simp] theorem State.settings_eventIf (s : State) (ok : Part → Bool) (f : Settings → Part → Part) :
    (s.eventIf ok f).settings = s.settings := by unfold State.eventIf; split <;> simp

@[simp] theorem State.pending_eventIf (s : State) (ok : Part → Bool) (f : Settings → Part → Part) :
    (s.eventIf ok f).pending = s.pending := by unfold State.eventIf; split <;> simp

theorem Part.settle_quiet (g : Settings) (p : Part) (h : p.isQuiet = true) : ∀ n, p.settle g n = p
  | 0 => rfl
  | n + 1 => by
    have : p.nextReaction = none := by simpa [Part.isQuiet] using h
    simp [Part.settle, this]

theorem State.conclude_quiet (s : State) (p : Part) (h : p.isQuiet = true) : s.conclude p = s.endEvent p := by
  simp [State.conclude, Part.settle_quiet _ _ h]

/-- A property that every enabled reaction keeps is kept by the reactions of an event. -/
theorem Part.settle_keeps (g : Settings) (P : Part → Prop)
    (keeps : ∀ (p : Part) (x : Reaction), x.enabled p = true → P p → P (x.run g p)) :
    ∀ (n : Nat) (p : Part), P p → P (p.settle g n)
  | 0, _, h => h
  | n + 1, p, h => by
    unfold Part.settle
    split
    · next x hx =>
      exact Part.settle_keeps g P keeps n _ (keeps p x (by simpa using List.find?_some hx) h)
    · exact h

/-- A property that neither the effect, nor a reaction, nor the end of the event breaks is kept by an event. -/
theorem State.event_keeps (P : Part → Prop) (s : State) (f : Settings → Part → Part)
    (effect : P s.part → P (f s.settings s.part))
    (keeps : ∀ (p : Part) (x : Reaction), x.enabled p = true → P p → P (x.run s.settings p))
    (ends : ∀ (p : Part), P p →
      P (s.part.compareNotices s.cabinet.reportedLevel (p.dozeTimers s.settings)))
    (h : P s.part) : P (s.event f).part := by
  unfold State.event
  split
  · exact h
  · exact ends _ (Part.settle_keeps _ P keeps _ _ (effect h))

/-! ## What the end of an event leaves alone -/

@[simp] theorem Radio.condition_dozeWait (g : Settings) (x : Radio) :
    (x.dozeWait g).condition = x.condition := by unfold Radio.dozeWait; split <;> (try split) <;> rfl

@[simp] theorem Part.call_dozeTimers (g : Settings) (p : Part) (k : RecId) :
    (p.dozeTimers g).call k = p.call k := by cases k <;> rfl

@[simp] theorem Part.noRadio_dozeTimers (g : Settings) (p : Part) :
    (p.dozeTimers g).noRadio = p.noRadio := by simp [Part.noRadio, Part.dozeTimers, Radio.broken]

@[simp] theorem Part.indication_dozeTimers (g : Settings) (p : Part) (d : Side) :
    (p.dozeTimers g).indication d = p.indication d := by simp [Part.indication]

end Sys2Proof.Machine
end

