-- ==== Sys2Proof/Laws/Frames.lean ====
section
/-! SUPPORT. What the operations of the inner blocks leave alone, RCU by RCU: an operation on a record, a plan or the
table leaves both RCUs alone, an operation on one RCU leaves the other alone, and what the Arbiter makes of a claim
leaves a broken RCU alone. -/

namespace Sys2Proof.Machine

/-! ## Operations that touch no RCU -/

@[simp] theorem Part.radio_prune (p : Part) (r : RcuId) : p.prune.radio r = p.radio r := by cases r <;> rfl

@[simp] theorem Part.radio_modEntry (p : Part) (i : Nat) (f : Entry → Entry) (r : RcuId) :
    (p.modEntry i f).radio r = p.radio r := by cases r <;> rfl

@[simp] theorem Part.radio_modTarget (p : Part) (t : Target) (f : Entry → Entry) (r : RcuId) :
    (p.modTarget t f).radio r = p.radio r := by cases t <;> cases r <;> rfl

@[simp] theorem Part.radio_insertNew (p : Part) (g : Settings) (e : Entry) (r : RcuId) :
    (p.insertNew g e).radio r = p.radio r := by unfold Part.insertNew; split <;> cases r <;> rfl

@[simp] theorem Part.radio_pushStack (p : Part) (c : CarrierKey) (r : RcuId) :
    (p.pushStack c).radio r = p.radio r := by cases r <;> rfl

@[simp] theorem Part.radio_dropStackKey (p : Part) (key : Key) (r : RcuId) :
    (p.dropStackKey key).radio r = p.radio r := by cases r <;> rfl

@[simp] theorem Part.radio_campChoice (p : Part) (g : Settings) (r : RcuId) :
    (p.campChoice g).radio r = p.radio r := by cases r <;> rfl

@[simp] theorem Part.radio_emptyPlan (p : Part) (k : RecId) (r : RcuId) :
    (p.emptyPlan k).radio r = p.radio r := by simp [Part.emptyPlan]

@[simp] theorem Part.radio_buildPlan (p : Part) (g : Settings) (k : RecId) (r : RcuId) :
    (p.buildPlan g k).radio r = p.radio r := by simp [Part.buildPlan]

@[simp] theorem Part.radio_buildRegainPlan (p : Part) (g : Settings) (k : RecId) (r : RcuId) :
    (p.buildRegainPlan g k).radio r = p.radio r := by simp [Part.buildRegainPlan]

@[simp] theorem Part.radio_seek (p : Part) (g : Settings) (k : RecId) (r : RcuId) :
    (p.seek g k).radio r = p.radio r := by unfold Part.seek; split <;> simp

@[simp] theorem Part.radio_recordIdle (p : Part) (k : RecId) (r : RcuId) :
    (p.recordIdle k).radio r = p.radio r := by simp [Part.recordIdle]

@[simp] theorem Part.radio_leaveQueue (p : Part) (h : Holder) (r : RcuId) :
    (p.leaveQueue h).radio r = p.radio r := by cases r <;> rfl

@[simp] theorem Part.radio_closeLent (p : Part) (k : RecId) (r : RcuId) :
    (p.closeLent k).radio r = p.radio r := by
  unfold Part.closeLent; split <;> (try split) <;> cases r <;> rfl

@[simp] theorem Part.radio_writeTest (p : Part) (x : TestResult) (r : RcuId) :
    (p.writeTest x).radio r = p.radio r := by cases r <;> rfl

@[simp] theorem Part.radio_withdrawConversion (p : Part) (src : Source) (r : RcuId) :
    (p.withdrawConversion src).radio r = p.radio r := by cases r <;> rfl

@[simp] theorem Part.radio_requestConversion (p : Part) (src : Source) (r : RcuId) :
    (p.requestConversion src).radio r = p.radio r := by cases r <;> rfl

@[simp] theorem Part.radio_surveyIdle (p : Part) (g : Settings) (r : RcuId) :
    (p.surveyIdle g).radio r = p.radio r := by cases r <;> rfl

@[simp] theorem Part.call_surveyIdle (p : Part) (g : Settings) (k : RecId) :
    (p.surveyIdle g).call k = p.call k := by cases k <;> rfl

@[simp] theorem Part.radio_raiseRadioChanged (p : Part) (r : RcuId) :
    p.raiseRadioChanged.radio r = p.radio r := by cases r <;> rfl

/-! ## Operations on one RCU -/

theorem Part.radio_modRadio_ne (p : Part) {r r' : RcuId} (h : r' ≠ r) (f : Radio → Radio) :
    (p.modRadio r f).radio r' = p.radio r' := Part.radio_setRadio_ne p r r' _ h

theorem Part.radio_abandonMeasurement_ne (p : Part) {r r' : RcuId} (h : r' ≠ r) :
    (p.abandonMeasurement r).radio r' = p.radio r' := by
  simp [Part.abandonMeasurement, Part.radio_modRadio_ne _ h]

theorem Part.radio_endContinuous_ne (p : Part) {r r' : RcuId} (h : r' ≠ r) :
    (p.endContinuous r).radio r' = p.radio r' := by
  unfold Part.endContinuous; split
  · exact p.radio_abandonMeasurement_ne h
  · rfl

theorem Part.radio_removeSweep_ne (p : Part) {r r' : RcuId} (h : r' ≠ r) :
    (p.removeSweep r).radio r' = p.radio r' := by
  unfold Part.removeSweep; split
  · rw [Part.radio_modRadio_ne _ h, Part.radio_abandonMeasurement_ne _ h]
  · rfl

theorem Part.radio_surveyLosesRcu_ne (p : Part) {r r' : RcuId} (h : r' ≠ r) (g : Settings) :
    (p.surveyLosesRcu g r).radio r' = p.radio r' := by
  simp [Part.surveyLosesRcu, Part.radio_removeSweep_ne _ h]

theorem Part.radio_holderLeaves_ne (p : Part) {r r' : RcuId} (h : r' ≠ r) :
    (p.holderLeaves r).radio r' = p.radio r' := by
  simp only [Part.holderLeaves, Part.abandon, Part.radio_modRadio_ne _ h, Part.radio_endContinuous_ne _ h]

theorem Part.radio_unbeginItem_ne (p : Part) {r r' : RcuId} (h : r' ≠ r) :
    (p.unbeginItem r).radio r' = p.radio r' := Part.radio_modRadio_ne p h _

theorem Part.radio_releaseRcu_ne (p : Part) {r r' : RcuId} (h : r' ≠ r) :
    (p.releaseRcu r).radio r' = p.radio r' := by
  simp only [Part.releaseRcu, Part.radio_modRadio_ne _ h, Part.radio_holderLeaves_ne _ h]

theorem Part.radio_assign_ne (p : Part) {r r' : RcuId} (h : r' ≠ r) (x : Holder) :
    (p.assign r x).radio r' = p.radio r' := Part.radio_modRadio_ne p h _

theorem Part.radio_granted_ne (p : Part) {r r' : RcuId} (h : r' ≠ r) (g : Settings) (x : Holder) :
    (p.granted g x r).radio r' = p.radio r' := by
  unfold Part.granted; split <;> try simp
  unfold Part.surveyGranted; rw [Part.radio_modRadio_ne _ h]; cases r' <;> rfl

theorem Part.radio_grant_ne (p : Part) {r r' : RcuId} (h : r' ≠ r) (g : Settings) (x : Holder) :
    (p.grant g x r).radio r' = p.radio r' := by
  unfold Part.grant; rw [Part.radio_granted_ne _ h, Part.radio_assign_ne _ h]; simp

theorem Part.radio_preempt_ne (p : Part) {r r' : RcuId} (h : r' ≠ r) (g : Settings) (x : Holder) :
    (p.preempt g x r).radio r' = p.radio r' := by
  have moved : (((p.unbeginItem r).holderLeaves r).assign r x).radio r' = p.radio r' := by
    rw [Part.radio_assign_ne _ h, Part.radio_holderLeaves_ne _ h, Part.radio_unbeginItem_ne _ h]
  unfold Part.preempt
  simp only []
  rw [Part.radio_granted_ne _ h, Part.radio_leaveQueue]
  split
  · unfold Part.losesToPreemption; split
    · rw [Part.radio_surveyLosesRcu_ne _ h, moved]
    · unfold Part.testPreempted; simp only []; split <;> simp [Part.radio_removeSweep_ne _ h, moved]
    · rw [← moved]; cases r' <;> rfl
    · exact moved
    · exact moved
  · exact moved

/-! ## An item taken back (R53) -/

theorem Radio.begunNow_iff (x : Radio) : x.begunNow = true ↔ ∃ c q key, x.sweep = some c ∧ c.endedNow = true ∧
    c.phase = .measuring ∧ x.slot = some q ∧ q.phase = .ackWait ∧ q.order = .measure key := by
  have m : ∀ o : Order, o.isMeasure = true ↔ ∃ key, o = .measure key := by intro o; cases o <;> simp [Order.isMeasure]
  unfold Radio.begunNow
  cases x.sweep <;> cases x.slot <;> simp [m, and_assoc]

/-- Taking a MEASURE back undoes its sending. -/
theorem Radio.unbegin_send (x : Radio) (c : Sweep) (key : Key) (hc : x.sweep = some c) (he : c.endedNow = true)
    (hm : c.phase = .measuring) (hs : x.slot = none) (ht : 1 ≤ x.tagCounter ∧ x.tagCounter ≤ 15) :
    (x.send (.measure key) .holder).unbegin = x := by
  have b : (x.send (.measure key) .holder).begunNow = true := by
    rw [Radio.begunNow_iff]; exact ⟨c, _, key, hc, he, hm, rfl, rfl, rfl⟩
  have tag : lastTag (nextTag x.tagCounter) = x.tagCounter := by unfold nextTag lastTag; split <;> split <;> omega
  unfold Radio.unbegin
  rw [if_pos b]
  cases x; simp_all [Radio.send]

/-! ## Whom the Arbiter chooses -/

/-- A grant goes to a grantable RCU. -/
theorem Part.grantNow_grantable (p : Part) {r : RcuId} (h : p.grantNow = some r) :
    (p.radio r).grantable = true := by
  have hn : p.nearest = some r := by
    unfold Part.grantNow at h; rw [Option.filter_eq_some_iff] at h; exact h.1
  unfold Part.nearest at hn
  split at hn <;> (try split at hn) <;> cases hn <;> assumption

/-- The RCU of a holder is held by it. -/
theorem Part.rcuOf_holder (p : Part) {h : Holder} {r : RcuId} (hr : p.rcuOf h = some r) :
    (p.radio r).holder = some h := by
  unfold Part.rcuOf at hr
  split at hr
  · cases hr; assumption
  · split at hr
    · cases hr; assumption
    · cases hr

theorem Part.rcuOf_eq_none (p : Part) (h : Holder) :
    p.rcuOf h = none ↔ ∀ r, (p.radio r).holder ≠ some h := by
  constructor
  · intro hn r hr
    unfold Part.rcuOf at hn
    cases r <;> simp only [Part.radio] at hr <;> simp only [hr, if_true] at hn
    · cases hn
    · split at hn <;> cases hn
  · intro hn
    have h0 : p.radio0.holder ≠ some h := hn .rcu0
    have h1 : p.radio1.holder ≠ some h := hn .rcu1
    simp [Part.rcuOf, h0, h1]

/-- The victim of a preemption is held by the survey, the test or the window. -/
theorem Part.victimRcu_holder (p : Part) {r : RcuId} (h : p.victimRcu = some r) :
    (p.radio r).holder = some .survey ∨ (p.radio r).holder = some .test ∨
      (p.radio r).holder = some .window := by
  unfold Part.victimRcu at h
  cases hs : p.rcuOf .survey with
  | some x => simp [hs] at h; subst h; exact Or.inl (p.rcuOf_holder hs)
  | none =>
    cases ht : p.rcuOf .test with
    | some x => simp [hs, ht] at h; subst h; exact Or.inr (Or.inl (p.rcuOf_holder ht))
    | none => simp [hs, ht] at h; exact Or.inr (Or.inr (p.rcuOf_holder h))

/-- A claim leaves an RCU alone that is broken and unassigned. -/
theorem Part.radio_claim_broken (p : Part) {r : RcuId} (hb : (p.radio r).broken = true)
    (hh : (p.radio r).holder = none) (g : Settings) (w : Waiting) : (p.claim g w).radio r = p.radio r := by
  unfold Part.claim Part.claimGrant
  split
  · rfl
  · split
    · next r' hr =>
      split at hr
      · cases hr
      · refine p.radio_grant_ne ?_ g _
        rintro rfl
        have := p.grantNow_grantable hr
        simp [Radio.grantable, hb] at this
    · split
      · next r' hr =>
        split at hr
        · refine p.radio_preempt_ne ?_ g _
          rintro rfl
          have := p.victimRcu_holder hr
          simp [hh] at this
        · cases hr
      · cases r <;> rfl

/-- A revocation leaves an RCU alone that is broken and unassigned. -/
theorem Part.radio_recordRevoked_broken (p : Part) {r : RcuId} (hb : (p.radio r).broken = true)
    (hh : (p.radio r).holder = none) (g : Settings) (k : RecId) :
    (p.recordRevoked g k).radio r = p.radio r := by
  have undone : ∀ q : Part, q.radio r = p.radio r → (q.requeueUndone g k).radio r = p.radio r := by
    intro q hq
    unfold Part.requeueUndone
    have given : (((q.modCall k fun c => { c with lastCause := .moduleFault }).requeue g k).leaveQueue
        k.holder).radio r = p.radio r := by
      simp only [Part.requeue, Part.radio_leaveQueue]
      rw [Part.radio_claim_broken] <;> simp [hq, hb, hh]
    simp only [Part.radio_recordIdle]
    split
    · next r' hr =>
      have ne : r ≠ r' := by
        rintro rfl
        have := Part.rcuOf_holder _ hr
        rw [given, hh] at this; cases this
      rw [Part.radio_releaseRcu_ne _ ne, given]
    · exact given
  unfold Part.recordRevoked
  simp only []
  split
  case h_7 => exact undone _ (by simp)
  case h_8 => exact undone _ (by simp)
  case h_9 => simp
  case h_10 => simp
  case h_6 =>
    unfold Part.requeue
    rw [Part.radio_claim_broken] <;> unfold Part.revokeConnected <;> simp only [] <;> split <;> simp [hb, hh]
  all_goals unfold Part.requeue; rw [Part.radio_claim_broken] <;> unfold Part.revokeSeeker <;> simp [hb, hh]

end Sys2Proof.Machine
end

