-- ==== Sys2Proof/Laws/Fields.lean ====
section
/-! SUPPORT. What the operations on one RCU leave alone beside the RCUs, field by field. -/

namespace Sys2Proof.Machine

theorem Part.call_withWindow (p : Part) (w : Option Window) (k : RecId) :
    ({ p with window := w } : Part).call k = p.call k := by cases k <;> rfl

theorem Part.radio_withWindow (p : Part) (w : Option Window) (r : RcuId) :
    ({ p with window := w } : Part).radio r = p.radio r := by cases r <;> rfl

theorem Part.rcuOf_withWindow (p : Part) (w : Option Window) (h : Holder) :
    ({ p with window := w } : Part).rcuOf h = p.rcuOf h := rfl

/-! ## abandonMeasurement -/

@[simp] theorem Part.table_abandonMeasurement (p : Part) (r : RcuId) :
    (p.abandonMeasurement r).table = p.table := by cases r <;> rfl

@[simp] theorem Part.claims_abandonMeasurement (p : Part) (r : RcuId) :
    (p.abandonMeasurement r).claims = p.claims := by cases r <;> rfl

@[simp] theorem Part.stack_abandonMeasurement (p : Part) (r : RcuId) :
    (p.abandonMeasurement r).stack = p.stack := by cases r <;> rfl

@[simp] theorem Part.window_abandonMeasurement (p : Part) (r : RcuId) :
    (p.abandonMeasurement r).window = p.window := by cases r <;> rfl

@[simp] theorem Part.power_abandonMeasurement (p : Part) (r : RcuId) :
    (p.abandonMeasurement r).power = p.power := by cases r <;> rfl

@[simp] theorem Part.survey_abandonMeasurement (p : Part) (r : RcuId) :
    (p.abandonMeasurement r).survey = p.survey := by cases r <;> rfl

@[simp] theorem Part.voiceA_abandonMeasurement (p : Part) (r : RcuId) :
    (p.abandonMeasurement r).voiceA = p.voiceA := by cases r <;> rfl

@[simp] theorem Part.voiceB_abandonMeasurement (p : Part) (r : RcuId) :
    (p.abandonMeasurement r).voiceB = p.voiceB := by cases r <;> rfl

@[simp] theorem Part.callSequence_abandonMeasurement (p : Part) (r : RcuId) :
    (p.abandonMeasurement r).callSequence = p.callSequence := by cases r <;> rfl

@[simp] theorem Part.testResult_abandonMeasurement (p : Part) (r : RcuId) :
    (p.abandonMeasurement r).testResult = p.testResult := by cases r <;> rfl

@[simp] theorem Part.call_abandonMeasurement (p : Part) (r : RcuId) (k : RecId) :
    (p.abandonMeasurement r).call k = p.call k := by cases k <;> cases r <;> rfl

/-! ## endContinuous -/

@[simp] theorem Part.table_endContinuous (p : Part) (r : RcuId) :
    (p.endContinuous r).table = p.table := by unfold Part.endContinuous; split <;> simp

@[simp] theorem Part.claims_endContinuous (p : Part) (r : RcuId) :
    (p.endContinuous r).claims = p.claims := by unfold Part.endContinuous; split <;> simp

@[simp] theorem Part.stack_endContinuous (p : Part) (r : RcuId) :
    (p.endContinuous r).stack = p.stack := by unfold Part.endContinuous; split <;> simp

@[simp] theorem Part.window_endContinuous (p : Part) (r : RcuId) :
    (p.endContinuous r).window = p.window := by unfold Part.endContinuous; split <;> simp

@[simp] theorem Part.power_endContinuous (p : Part) (r : RcuId) :
    (p.endContinuous r).power = p.power := by unfold Part.endContinuous; split <;> simp

@[simp] theorem Part.survey_endContinuous (p : Part) (r : RcuId) :
    (p.endContinuous r).survey = p.survey := by unfold Part.endContinuous; split <;> simp

@[simp] theorem Part.voiceA_endContinuous (p : Part) (r : RcuId) :
    (p.endContinuous r).voiceA = p.voiceA := by unfold Part.endContinuous; split <;> simp

@[simp] theorem Part.voiceB_endContinuous (p : Part) (r : RcuId) :
    (p.endContinuous r).voiceB = p.voiceB := by unfold Part.endContinuous; split <;> simp

@[simp] theorem Part.callSequence_endContinuous (p : Part) (r : RcuId) :
    (p.endContinuous r).callSequence = p.callSequence := by unfold Part.endContinuous; split <;> simp

@[simp] theorem Part.testResult_endContinuous (p : Part) (r : RcuId) :
    (p.endContinuous r).testResult = p.testResult := by unfold Part.endContinuous; split <;> simp

@[simp] theorem Part.call_endContinuous (p : Part) (r : RcuId) (k : RecId) :
    (p.endContinuous r).call k = p.call k := by unfold Part.endContinuous; split <;> simp

/-! ## abandon -/

@[simp] theorem Part.table_abandon (p : Part) (r : RcuId) :
    (p.abandon r).table = p.table := by simp [Part.abandon]

@[simp] theorem Part.claims_abandon (p : Part) (r : RcuId) :
    (p.abandon r).claims = p.claims := by simp [Part.abandon]

@[simp] theorem Part.stack_abandon (p : Part) (r : RcuId) :
    (p.abandon r).stack = p.stack := by simp [Part.abandon]

@[simp] theorem Part.window_abandon (p : Part) (r : RcuId) :
    (p.abandon r).window = p.window := by simp [Part.abandon]

@[simp] theorem Part.power_abandon (p : Part) (r : RcuId) :
    (p.abandon r).power = p.power := by simp [Part.abandon]

@[simp] theorem Part.survey_abandon (p : Part) (r : RcuId) :
    (p.abandon r).survey = p.survey := by simp [Part.abandon]

@[simp] theorem Part.voiceA_abandon (p : Part) (r : RcuId) :
    (p.abandon r).voiceA = p.voiceA := by simp [Part.abandon]

@[simp] theorem Part.voiceB_abandon (p : Part) (r : RcuId) :
    (p.abandon r).voiceB = p.voiceB := by simp [Part.abandon]

@[simp] theorem Part.callSequence_abandon (p : Part) (r : RcuId) :
    (p.abandon r).callSequence = p.callSequence := by simp [Part.abandon]

@[simp] theorem Part.testResult_abandon (p : Part) (r : RcuId) :
    (p.abandon r).testResult = p.testResult := by simp [Part.abandon]

@[simp] theorem Part.call_abandon (p : Part) (r : RcuId) (k : RecId) :
    (p.abandon r).call k = p.call k := by simp [Part.abandon]

/-! ## unbeginItem -/

@[simp] theorem Part.table_unbeginItem (p : Part) (r : RcuId) :
    (p.unbeginItem r).table = p.table := by simp [Part.unbeginItem]

@[simp] theorem Part.claims_unbeginItem (p : Part) (r : RcuId) :
    (p.unbeginItem r).claims = p.claims := by simp [Part.unbeginItem]

@[simp] theorem Part.stack_unbeginItem (p : Part) (r : RcuId) :
    (p.unbeginItem r).stack = p.stack := by simp [Part.unbeginItem]

@[simp] theorem Part.window_unbeginItem (p : Part) (r : RcuId) :
    (p.unbeginItem r).window = p.window := by simp [Part.unbeginItem]

@[simp] theorem Part.power_unbeginItem (p : Part) (r : RcuId) :
    (p.unbeginItem r).power = p.power := by simp [Part.unbeginItem]

@[simp] theorem Part.survey_unbeginItem (p : Part) (r : RcuId) :
    (p.unbeginItem r).survey = p.survey := by simp [Part.unbeginItem]

@[simp] theorem Part.voiceA_unbeginItem (p : Part) (r : RcuId) :
    (p.unbeginItem r).voiceA = p.voiceA := by simp [Part.unbeginItem]

@[simp] theorem Part.voiceB_unbeginItem (p : Part) (r : RcuId) :
    (p.unbeginItem r).voiceB = p.voiceB := by simp [Part.unbeginItem]

@[simp] theorem Part.callSequence_unbeginItem (p : Part) (r : RcuId) :
    (p.unbeginItem r).callSequence = p.callSequence := by simp [Part.unbeginItem]

@[simp] theorem Part.testResult_unbeginItem (p : Part) (r : RcuId) :
    (p.unbeginItem r).testResult = p.testResult := by simp [Part.unbeginItem]

@[simp] theorem Part.call_unbeginItem (p : Part) (r : RcuId) (k : RecId) :
    (p.unbeginItem r).call k = p.call k := by simp [Part.unbeginItem]

/-! ## leaveInCall -/

@[simp] theorem Part.table_leaveInCall (p : Part) (r : RcuId) :
    (p.leaveInCall r).table = p.table := by simp [Part.leaveInCall]

@[simp] theorem Part.claims_leaveInCall (p : Part) (r : RcuId) :
    (p.leaveInCall r).claims = p.claims := by simp [Part.leaveInCall]

@[simp] theorem Part.stack_leaveInCall (p : Part) (r : RcuId) :
    (p.leaveInCall r).stack = p.stack := by simp [Part.leaveInCall]

@[simp] theorem Part.window_leaveInCall (p : Part) (r : RcuId) :
    (p.leaveInCall r).window = p.window := by simp [Part.leaveInCall]

@[simp] theorem Part.power_leaveInCall (p : Part) (r : RcuId) :
    (p.leaveInCall r).power = p.power := by simp [Part.leaveInCall]

@[simp] theorem Part.survey_leaveInCall (p : Part) (r : RcuId) :
    (p.leaveInCall r).survey = p.survey := by simp [Part.leaveInCall]

@[simp] theorem Part.voiceA_leaveInCall (p : Part) (r : RcuId) :
    (p.leaveInCall r).voiceA = p.voiceA := by simp [Part.leaveInCall]

@[simp] theorem Part.voiceB_leaveInCall (p : Part) (r : RcuId) :
    (p.leaveInCall r).voiceB = p.voiceB := by simp [Part.leaveInCall]

@[simp] theorem Part.callSequence_leaveInCall (p : Part) (r : RcuId) :
    (p.leaveInCall r).callSequence = p.callSequence := by simp [Part.leaveInCall]

@[simp] theorem Part.testResult_leaveInCall (p : Part) (r : RcuId) :
    (p.leaveInCall r).testResult = p.testResult := by simp [Part.leaveInCall]

@[simp] theorem Part.call_leaveInCall (p : Part) (r : RcuId) (k : RecId) :
    (p.leaveInCall r).call k = p.call k := by simp [Part.leaveInCall]

/-! ## supplyOff -/

@[simp] theorem Part.table_supplyOff (p : Part) (r : RcuId) :
    (p.supplyOff r).table = p.table := by simp [Part.supplyOff]

@[simp] theorem Part.claims_supplyOff (p : Part) (r : RcuId) :
    (p.supplyOff r).claims = p.claims := by simp [Part.supplyOff]

@[simp] theorem Part.stack_supplyOff (p : Part) (r : RcuId) :
    (p.supplyOff r).stack = p.stack := by simp [Part.supplyOff]

@[simp] theorem Part.window_supplyOff (p : Part) (r : RcuId) :
    (p.supplyOff r).window = p.window := by simp [Part.supplyOff]

@[simp] theorem Part.power_supplyOff (p : Part) (r : RcuId) :
    (p.supplyOff r).power = p.power := by simp [Part.supplyOff]

@[simp] theorem Part.survey_supplyOff (p : Part) (r : RcuId) :
    (p.supplyOff r).survey = p.survey := by simp [Part.supplyOff]

@[simp] theorem Part.voiceA_supplyOff (p : Part) (r : RcuId) :
    (p.supplyOff r).voiceA = p.voiceA := by simp [Part.supplyOff]

@[simp] theorem Part.voiceB_supplyOff (p : Part) (r : RcuId) :
    (p.supplyOff r).voiceB = p.voiceB := by simp [Part.supplyOff]

@[simp] theorem Part.callSequence_supplyOff (p : Part) (r : RcuId) :
    (p.supplyOff r).callSequence = p.callSequence := by simp [Part.supplyOff]

@[simp] theorem Part.testResult_supplyOff (p : Part) (r : RcuId) :
    (p.supplyOff r).testResult = p.testResult := by simp [Part.supplyOff]

@[simp] theorem Part.call_supplyOff (p : Part) (r : RcuId) (k : RecId) :
    (p.supplyOff r).call k = p.call k := by simp [Part.supplyOff]

/-! ## holderLeaves -/

@[simp] theorem Part.table_holderLeaves (p : Part) (r : RcuId) :
    (p.holderLeaves r).table = p.table := by simp [Part.holderLeaves]

@[simp] theorem Part.claims_holderLeaves (p : Part) (r : RcuId) :
    (p.holderLeaves r).claims = p.claims := by simp [Part.holderLeaves]

@[simp] theorem Part.stack_holderLeaves (p : Part) (r : RcuId) :
    (p.holderLeaves r).stack = p.stack := by simp [Part.holderLeaves]

@[simp] theorem Part.window_holderLeaves (p : Part) (r : RcuId) :
    (p.holderLeaves r).window = p.window := by simp [Part.holderLeaves]

@[simp] theorem Part.power_holderLeaves (p : Part) (r : RcuId) :
    (p.holderLeaves r).power = p.power := by simp [Part.holderLeaves]

@[simp] theorem Part.survey_holderLeaves (p : Part) (r : RcuId) :
    (p.holderLeaves r).survey = p.survey := by simp [Part.holderLeaves]

@[simp] theorem Part.voiceA_holderLeaves (p : Part) (r : RcuId) :
    (p.holderLeaves r).voiceA = p.voiceA := by simp [Part.holderLeaves]

@[simp] theorem Part.voiceB_holderLeaves (p : Part) (r : RcuId) :
    (p.holderLeaves r).voiceB = p.voiceB := by simp [Part.holderLeaves]

@[simp] theorem Part.callSequence_holderLeaves (p : Part) (r : RcuId) :
    (p.holderLeaves r).callSequence = p.callSequence := by simp [Part.holderLeaves]

@[simp] theorem Part.testResult_holderLeaves (p : Part) (r : RcuId) :
    (p.holderLeaves r).testResult = p.testResult := by simp [Part.holderLeaves]

@[simp] theorem Part.call_holderLeaves (p : Part) (r : RcuId) (k : RecId) :
    (p.holderLeaves r).call k = p.call k := by simp [Part.holderLeaves]

/-! ## releaseRcu -/

@[simp] theorem Part.table_releaseRcu (p : Part) (r : RcuId) :
    (p.releaseRcu r).table = p.table := by simp [Part.releaseRcu]

@[simp] theorem Part.claims_releaseRcu (p : Part) (r : RcuId) :
    (p.releaseRcu r).claims = p.claims := by simp [Part.releaseRcu]

@[simp] theorem Part.stack_releaseRcu (p : Part) (r : RcuId) :
    (p.releaseRcu r).stack = p.stack := by simp [Part.releaseRcu]

@[simp] theorem Part.window_releaseRcu (p : Part) (r : RcuId) :
    (p.releaseRcu r).window = p.window := by simp [Part.releaseRcu]

@[simp] theorem Part.power_releaseRcu (p : Part) (r : RcuId) :
    (p.releaseRcu r).power = p.power := by simp [Part.releaseRcu]

@[simp] theorem Part.survey_releaseRcu (p : Part) (r : RcuId) :
    (p.releaseRcu r).survey = p.survey := by simp [Part.releaseRcu]

@[simp] theorem Part.voiceA_releaseRcu (p : Part) (r : RcuId) :
    (p.releaseRcu r).voiceA = p.voiceA := by simp [Part.releaseRcu]

@[simp] theorem Part.voiceB_releaseRcu (p : Part) (r : RcuId) :
    (p.releaseRcu r).voiceB = p.voiceB := by simp [Part.releaseRcu]

@[simp] theorem Part.callSequence_releaseRcu (p : Part) (r : RcuId) :
    (p.releaseRcu r).callSequence = p.callSequence := by simp [Part.releaseRcu]

@[simp] theorem Part.testResult_releaseRcu (p : Part) (r : RcuId) :
    (p.releaseRcu r).testResult = p.testResult := by simp [Part.releaseRcu]

@[simp] theorem Part.call_releaseRcu (p : Part) (r : RcuId) (k : RecId) :
    (p.releaseRcu r).call k = p.call k := by simp [Part.releaseRcu]

/-! ## assign -/

@[simp] theorem Part.table_assign (p : Part) (r : RcuId) (h : Holder) :
    (p.assign r h).table = p.table := by simp [Part.assign]

@[simp] theorem Part.claims_assign (p : Part) (r : RcuId) (h : Holder) :
    (p.assign r h).claims = p.claims := by simp [Part.assign]

@[simp] theorem Part.stack_assign (p : Part) (r : RcuId) (h : Holder) :
    (p.assign r h).stack = p.stack := by simp [Part.assign]

@[simp] theorem Part.window_assign (p : Part) (r : RcuId) (h : Holder) :
    (p.assign r h).window = p.window := by simp [Part.assign]

@[simp] theorem Part.power_assign (p : Part) (r : RcuId) (h : Holder) :
    (p.assign r h).power = p.power := by simp [Part.assign]

@[simp] theorem Part.survey_assign (p : Part) (r : RcuId) (h : Holder) :
    (p.assign r h).survey = p.survey := by simp [Part.assign]

@[simp] theorem Part.voiceA_assign (p : Part) (r : RcuId) (h : Holder) :
    (p.assign r h).voiceA = p.voiceA := by simp [Part.assign]

@[simp] theorem Part.voiceB_assign (p : Part) (r : RcuId) (h : Holder) :
    (p.assign r h).voiceB = p.voiceB := by simp [Part.assign]

@[simp] theorem Part.callSequence_assign (p : Part) (r : RcuId) (h : Holder) :
    (p.assign r h).callSequence = p.callSequence := by simp [Part.assign]

@[simp] theorem Part.testResult_assign (p : Part) (r : RcuId) (h : Holder) :
    (p.assign r h).testResult = p.testResult := by simp [Part.assign]

@[simp] theorem Part.call_assign (p : Part) (r : RcuId) (h : Holder) (k : RecId) :
    (p.assign r h).call k = p.call k := by simp [Part.assign]

/-! ## removeSweep -/

@[simp] theorem Part.table_removeSweep (p : Part) (r : RcuId) :
    (p.removeSweep r).table = p.table := by unfold Part.removeSweep; split <;> simp

@[simp] theorem Part.claims_removeSweep (p : Part) (r : RcuId) :
    (p.removeSweep r).claims = p.claims := by unfold Part.removeSweep; split <;> simp

@[simp] theorem Part.stack_removeSweep (p : Part) (r : RcuId) :
    (p.removeSweep r).stack = p.stack := by unfold Part.removeSweep; split <;> simp

@[simp] theorem Part.window_removeSweep (p : Part) (r : RcuId) :
    (p.removeSweep r).window = p.window := by unfold Part.removeSweep; split <;> simp

@[simp] theorem Part.power_removeSweep (p : Part) (r : RcuId) :
    (p.removeSweep r).power = p.power := by unfold Part.removeSweep; split <;> simp

@[simp] theorem Part.survey_removeSweep (p : Part) (r : RcuId) :
    (p.removeSweep r).survey = p.survey := by unfold Part.removeSweep; split <;> simp

@[simp] theorem Part.voiceA_removeSweep (p : Part) (r : RcuId) :
    (p.removeSweep r).voiceA = p.voiceA := by unfold Part.removeSweep; split <;> simp

@[simp] theorem Part.voiceB_removeSweep (p : Part) (r : RcuId) :
    (p.removeSweep r).voiceB = p.voiceB := by unfold Part.removeSweep; split <;> simp

@[simp] theorem Part.callSequence_removeSweep (p : Part) (r : RcuId) :
    (p.removeSweep r).callSequence = p.callSequence := by unfold Part.removeSweep; split <;> simp

@[simp] theorem Part.testResult_removeSweep (p : Part) (r : RcuId) :
    (p.removeSweep r).testResult = p.testResult := by unfold Part.removeSweep; split <;> simp

@[simp] theorem Part.call_removeSweep (p : Part) (r : RcuId) (k : RecId) :
    (p.removeSweep r).call k = p.call k := by unfold Part.removeSweep; split <;> simp

/-! ## offer -/

@[simp] theorem Part.table_offer (p : Part) (r : RcuId) (o : Order) :
    (p.offer r o).table = p.table := by simp [Part.offer]

@[simp] theorem Part.claims_offer (p : Part) (r : RcuId) (o : Order) :
    (p.offer r o).claims = p.claims := by simp [Part.offer]

@[simp] theorem Part.stack_offer (p : Part) (r : RcuId) (o : Order) :
    (p.offer r o).stack = p.stack := by simp [Part.offer]

@[simp] theorem Part.window_offer (p : Part) (r : RcuId) (o : Order) :
    (p.offer r o).window = p.window := by simp [Part.offer]

@[simp] theorem Part.power_offer (p : Part) (r : RcuId) (o : Order) :
    (p.offer r o).power = p.power := by simp [Part.offer]

@[simp] theorem Part.survey_offer (p : Part) (r : RcuId) (o : Order) :
    (p.offer r o).survey = p.survey := by simp [Part.offer]

@[simp] theorem Part.voiceA_offer (p : Part) (r : RcuId) (o : Order) :
    (p.offer r o).voiceA = p.voiceA := by simp [Part.offer]

@[simp] theorem Part.voiceB_offer (p : Part) (r : RcuId) (o : Order) :
    (p.offer r o).voiceB = p.voiceB := by simp [Part.offer]

@[simp] theorem Part.callSequence_offer (p : Part) (r : RcuId) (o : Order) :
    (p.offer r o).callSequence = p.callSequence := by simp [Part.offer]

@[simp] theorem Part.testResult_offer (p : Part) (r : RcuId) (o : Order) :
    (p.offer r o).testResult = p.testResult := by simp [Part.offer]

@[simp] theorem Part.call_offer (p : Part) (r : RcuId) (o : Order) (k : RecId) :
    (p.offer r o).call k = p.call k := by simp [Part.offer]

/-! ## applyOutcome -/

@[simp] theorem Part.table_applyOutcome (p : Part) (r : RcuId) (o : Order) (x : ModuleOutcome) :
    (p.applyOutcome r o x).table = p.table := by unfold Part.applyOutcome; split <;> simp

@[simp] theorem Part.claims_applyOutcome (p : Part) (r : RcuId) (o : Order) (x : ModuleOutcome) :
    (p.applyOutcome r o x).claims = p.claims := by unfold Part.applyOutcome; split <;> simp

@[simp] theorem Part.stack_applyOutcome (p : Part) (r : RcuId) (o : Order) (x : ModuleOutcome) :
    (p.applyOutcome r o x).stack = p.stack := by unfold Part.applyOutcome; split <;> simp

@[simp] theorem Part.window_applyOutcome (p : Part) (r : RcuId) (o : Order) (x : ModuleOutcome) :
    (p.applyOutcome r o x).window = p.window := by unfold Part.applyOutcome; split <;> simp

@[simp] theorem Part.power_applyOutcome (p : Part) (r : RcuId) (o : Order) (x : ModuleOutcome) :
    (p.applyOutcome r o x).power = p.power := by unfold Part.applyOutcome; split <;> simp

@[simp] theorem Part.survey_applyOutcome (p : Part) (r : RcuId) (o : Order) (x : ModuleOutcome) :
    (p.applyOutcome r o x).survey = p.survey := by unfold Part.applyOutcome; split <;> simp

@[simp] theorem Part.voiceA_applyOutcome (p : Part) (r : RcuId) (o : Order) (x : ModuleOutcome) :
    (p.applyOutcome r o x).voiceA = p.voiceA := by unfold Part.applyOutcome; split <;> simp

@[simp] theorem Part.voiceB_applyOutcome (p : Part) (r : RcuId) (o : Order) (x : ModuleOutcome) :
    (p.applyOutcome r o x).voiceB = p.voiceB := by unfold Part.applyOutcome; split <;> simp

@[simp] theorem Part.callSequence_applyOutcome (p : Part) (r : RcuId) (o : Order) (x : ModuleOutcome) :
    (p.applyOutcome r o x).callSequence = p.callSequence := by unfold Part.applyOutcome; split <;> simp

@[simp] theorem Part.testResult_applyOutcome (p : Part) (r : RcuId) (o : Order) (x : ModuleOutcome) :
    (p.applyOutcome r o x).testResult = p.testResult := by unfold Part.applyOutcome; split <;> simp

@[simp] theorem Part.call_applyOutcome (p : Part) (r : RcuId) (o : Order) (x : ModuleOutcome) (k : RecId) :
    (p.applyOutcome r o x).call k = p.call k := by unfold Part.applyOutcome; split <;> simp

/-! ## startAnswerTimer -/

@[simp] theorem Part.table_startAnswerTimer (p : Part) (g : Settings) (r : RcuId) (x : ModuleOutcome) :
    (p.startAnswerTimer g r x).table = p.table := by unfold Part.startAnswerTimer; split <;> simp

@[simp] theorem Part.claims_startAnswerTimer (p : Part) (g : Settings) (r : RcuId) (x : ModuleOutcome) :
    (p.startAnswerTimer g r x).claims = p.claims := by unfold Part.startAnswerTimer; split <;> simp

@[simp] theorem Part.stack_startAnswerTimer (p : Part) (g : Settings) (r : RcuId) (x : ModuleOutcome) :
    (p.startAnswerTimer g r x).stack = p.stack := by unfold Part.startAnswerTimer; split <;> simp

@[simp] theorem Part.window_startAnswerTimer (p : Part) (g : Settings) (r : RcuId) (x : ModuleOutcome) :
    (p.startAnswerTimer g r x).window = p.window := by unfold Part.startAnswerTimer; split <;> simp

@[simp] theorem Part.power_startAnswerTimer (p : Part) (g : Settings) (r : RcuId) (x : ModuleOutcome) :
    (p.startAnswerTimer g r x).power = p.power := by unfold Part.startAnswerTimer; split <;> simp

@[simp] theorem Part.survey_startAnswerTimer (p : Part) (g : Settings) (r : RcuId) (x : ModuleOutcome) :
    (p.startAnswerTimer g r x).survey = p.survey := by unfold Part.startAnswerTimer; split <;> simp

@[simp] theorem Part.voiceA_startAnswerTimer (p : Part) (g : Settings) (r : RcuId) (x : ModuleOutcome) :
    (p.startAnswerTimer g r x).voiceA = p.voiceA := by unfold Part.startAnswerTimer; split <;> simp

@[simp] theorem Part.voiceB_startAnswerTimer (p : Part) (g : Settings) (r : RcuId) (x : ModuleOutcome) :
    (p.startAnswerTimer g r x).voiceB = p.voiceB := by unfold Part.startAnswerTimer; split <;> simp

@[simp] theorem Part.callSequence_startAnswerTimer (p : Part) (g : Settings) (r : RcuId) (x : ModuleOutcome) :
    (p.startAnswerTimer g r x).callSequence = p.callSequence := by unfold Part.startAnswerTimer; split <;> simp

@[simp] theorem Part.testResult_startAnswerTimer (p : Part) (g : Settings) (r : RcuId) (x : ModuleOutcome) :
    (p.startAnswerTimer g r x).testResult = p.testResult := by unfold Part.startAnswerTimer; split <;> simp

@[simp] theorem Part.call_startAnswerTimer (p : Part) (g : Settings) (r : RcuId) (x : ModuleOutcome) (k : RecId) :
    (p.startAnswerTimer g r x).call k = p.call k := by unfold Part.startAnswerTimer; split <;> simp

end Sys2Proof.Machine
end

