-- ==== Sys2Proof/Laws/Link.lean ====
section
/-! SUPPORT. The bytes of one whole frame reach the RCU as one event, and a frame built by linkFrame is read back. -/

namespace Sys2Proof.Machine

/-- The RCU's receiver stands at this. -/
def State.withReceiver (r : RcuId) (x : LinkReceiver) (s : State) : State :=
  s.modPart fun p => p.modRadio r fun y => { y with receiver := x }

theorem State.withReceiver_self (s : State) (r : RcuId) (x : LinkReceiver)
    (h : (s.part.radio r).receiver = x) : s.withReceiver r x = s := by
  subst h; cases r <;> rfl

theorem State.withReceiver_withReceiver (s : State) (r : RcuId) (x y : LinkReceiver) :
    (s.withReceiver r x).withReceiver r y = s.withReceiver r y := by cases r <;> rfl

theorem State.receiver_withReceiver (s : State) (r : RcuId) (x : LinkReceiver) :
    ((s.withReceiver r x).part.radio r).receiver = x := by cases r <;> rfl

theorem State.isHeld_withReceiver (s : State) (r : RcuId) (x : LinkReceiver) :
    (s.withReceiver r x).isHeld = s.isHeld := by cases r <;> rfl

/-- A byte that completes no frame only moves the receiver. -/
theorem State.linkByte_silent (s : State) (r : RcuId) (b : Byte) (x : LinkReceiver) (h : s.isHeld = false)
    (hb : (s.part.radio r).receiver.byte b = (x, none)) : s.linkByte r b = s.withReceiver r x := by
  simp [State.linkByte, h, hb, State.withReceiver]

/-- The part of a frame that the receiver has taken. -/
def LinkReceiver.ofBytes : List Byte → LinkReceiver
  | [] => .empty
  | b :: rest => .partly (b :: rest)

theorem LinkReceiver.byte_ofBytes (bytes : List Byte) (b : Byte)
    (h : ∀ c, (bytes ++ [b])[2]? = some c → c.toNat ≤ 24 ∧ (bytes ++ [b]).length ≠ c.toNat + 4) :
    (LinkReceiver.ofBytes bytes).byte b = (LinkReceiver.ofBytes (bytes ++ [b]), none) := by
  cases bytes with
  | nil => rfl
  | cons a rest =>
    simp only [LinkReceiver.ofBytes, LinkReceiver.byte, List.cons_append]
    split
    · rfl
    · next c hc =>
      have := h c hc
      have h1 : ¬ 24 < c.toNat := by omega
      have h2 : ¬ (a :: (rest ++ [b])).length = c.toNat + 4 := this.2
      simp only [h1, if_false, h2]

/-- A proper part of a frame leaves the receiver holding it. -/
theorem State.receive_part (r : RcuId) (s : State) (h : s.isHeld = false) (full : List Byte) (n : Nat)
    (hc : ∀ c, full[2]? = some c → c.toNat = n) (hn : n ≤ 24) (hl : full.length = n + 4) :
    ∀ (done todo : List Byte), done ++ todo = full → todo ≠ [] →
      ∀ t : State, t = s.withReceiver r (LinkReceiver.ofBytes done) →
        t.receive r todo.dropLast = s.withReceiver r (LinkReceiver.ofBytes full.dropLast) := by
  intro done todo
  induction todo generalizing done with
  | nil => intro _ h0; exact absurd rfl h0
  | cons b rest ih =>
    intro hfull _ t ht
    cases rest with
    | nil =>
      subst hfull
      simp [State.receive, ht]
    | cons b' rest' =>
      have hlen : done.length + (rest'.length + 2) = n + 4 := by
        rw [← hl, ← hfull]; simp
      have hb : (LinkReceiver.ofBytes done).byte b = (LinkReceiver.ofBytes (done ++ [b]), none) := by
        apply LinkReceiver.byte_ofBytes
        intro c hcc
        have : full[2]? = some c := by
          rw [← hfull]
          have h2 : 2 < (done ++ [b]).length := by
            rcases Nat.lt_or_ge 2 (done ++ [b]).length with h | h
            · exact h
            · rw [List.getElem?_eq_none h] at hcc; cases hcc
          have : done ++ b :: b' :: rest' = (done ++ [b]) ++ (b' :: rest') := by simp
          rw [this, List.getElem?_append_left h2]; exact hcc
        have := hc c this
        constructor
        · omega
        · simp; omega
      have hstep : t.linkByte r b = s.withReceiver r (LinkReceiver.ofBytes (done ++ [b])) := by
        rw [ht, State.linkByte_silent _ r b _ (by rw [State.isHeld_withReceiver]; exact h)
          (by rw [State.receiver_withReceiver]; exact hb), State.withReceiver_withReceiver]
      have := ih (done ++ [b]) (by simpa using hfull) (by simp) _ hstep
      simpa [State.receive] using this

/-- The bytes of one whole frame, at an empty receiver, are one event of the RCU (R55, R187). -/
theorem State.receive_frame (s : State) (r : RcuId) (bytes : List Byte) (c : Byte) (h : s.listens r)
    (hc : bytes[2]? = some c) (hn : c.toNat ≤ 24) (hl : bytes.length = c.toNat + 4) :
    s.receive r bytes = s.event fun g p => p.frameArrives g r bytes := by
  obtain ⟨hh, he⟩ := h
  have hne : bytes ≠ [] := by intro h0; simp [h0] at hl
  have hsplit : bytes = bytes.dropLast ++ [bytes.getLast hne] := (List.dropLast_append_getLast hne).symm
  have hpart := State.receive_part r s hh bytes c.toNat
    (by intro c' h'; rw [hc] at h'; cases h'; rfl) hn hl [] bytes rfl hne s
    (by rw [LinkReceiver.ofBytes, State.withReceiver_self _ _ _ he])
  have hlast : s.receive r bytes =
      (s.receive r bytes.dropLast).linkByte r (bytes.getLast hne) := by
    conv_lhs => rw [hsplit]
    simp [State.receive]
  rw [hlast, hpart]
  have hb : (LinkReceiver.ofBytes bytes.dropLast).byte (bytes.getLast hne) = (.empty, some bytes) := by
    cases hd : bytes.dropLast with
    | nil =>
      have := congrArg List.length hd
      simp at this; omega
    | cons a rest =>
      have hall : (a :: rest) ++ [bytes.getLast hne] = bytes := by rw [← hd]; exact hsplit.symm
      simp only [LinkReceiver.ofBytes, LinkReceiver.byte]
      rw [hall, hc]
      have h1 : ¬ 24 < c.toNat := by omega
      simp [h1, hl]
  have hheld : (s.withReceiver r (LinkReceiver.ofBytes bytes.dropLast)).isHeld = false := by
    rw [State.isHeld_withReceiver]; exact hh
  have hback : (s.withReceiver r (LinkReceiver.ofBytes bytes.dropLast)).withReceiver r .empty = s := by
    rw [State.withReceiver_withReceiver, State.withReceiver_self _ _ _ he]
  simp only [State.linkByte, hheld, State.receiver_withReceiver, hb]
  exact congrArg (fun t : State => t.event fun g p => p.frameArrives g r bytes) hback

theorem linkFrame_length (kind tag : Byte) (params : List Byte) :
    (linkFrame kind tag params).length = params.length + 4 := by simp [linkFrame]

theorem linkFrame_count (kind tag : Byte) (params : List Byte) :
    (linkFrame kind tag params)[2]? = some (toByte params.length) := by simp [linkFrame]

theorem toByte_toNat (n : Nat) (h : n ≤ 255) : (toByte n).toNat = n := by
  simp [toByte, BitVec.toNat_ofNat]; omega

/-- A frame that linkFrame builds passes the check byte, and its kind, tag and parameters are read back. -/
theorem parseFrame_linkFrame (kind tag : Byte) (params : List Byte) (h : params.length ≤ 24) :
    parseFrame (linkFrame kind tag params) = frameOf kind.toNat tag.toNat params := by
  have hn : (toByte params.length).toNat = params.length := toByte_toNat _ (by omega)
  simp [parseFrame, linkFrame, hn]

/-- A frame with at most 24 parameters, at an RCU that listens, is taken as one event. -/
theorem State.receive_linkFrame (s : State) (r : RcuId) (kind tag : Byte) (params : List Byte)
    (h : s.listens r) (hp : params.length ≤ 24) :
    s.receive r (linkFrame kind tag params) =
      s.conclude (s.part.frameArrives s.settings r (linkFrame kind tag params)) := by
  have hn : (toByte params.length).toNat = params.length := toByte_toNat _ (by omega)
  rw [State.receive_frame s r _ _ h (linkFrame_count kind tag params) (by omega)
    (by rw [linkFrame_length, hn]), State.event_running _ _ h.1]

/-- What a frame does that passes the tests, at an RCU that hears. -/
theorem State.receive_taken (s : State) (r : RcuId) (kind tag : Byte) (params : List Byte) (f : ModuleFrame)
    (h : s.hears r) (hp : params.length ≤ 24) (hf : frameOf kind.toNat tag.toNat params = some f) :
    s.receive r (linkFrame kind tag params) = s.conclude (s.part.takeFrame s.settings r f) := by
  rw [State.receive_linkFrame s r kind tag params h.1 hp]
  simp [Part.frameArrives, parseFrame_linkFrame _ _ _ hp, hf, h.2]

end Sys2Proof.Machine
end

