-- ==== Sys2Proof/Laws/Outcomes.lean ====
section
/-! SUPPORT. What an outcome frame does on an order of a holder (R58), from its bytes to the record that awaits it. -/

namespace Sys2Proof.Machine

/-! ## Proving the module -/

@[simp] theorem Part.holder_prove (p : Part) (r : RcuId) : ((p.prove r).radio r).holder = (p.radio r).holder := by
  unfold Part.prove; simp only []; split <;> (try split) <;> simp

@[simp] theorem Part.condition_prove (p : Part) (r : RcuId) :
    ((p.prove r).radio r).condition = (p.radio r).condition := by
  unfold Part.prove; simp only []; split <;> (try split) <;> simp

@[simp] theorem Part.slot_prove (p : Part) (r : RcuId) : ((p.prove r).radio r).slot = (p.radio r).slot := by
  unfold Part.prove; simp only []; split <;> (try split) <;> simp

@[simp] theorem Part.call_prove (p : Part) (r : RcuId) (k : RecId) : (p.prove r).call k = p.call k := by
  unfold Part.prove; simp only []; split <;> (try split) <;> cases k <;> cases r <;> rfl

@[simp] theorem Part.power_prove (p : Part) (r : RcuId) : (p.prove r).power = p.power := by
  unfold Part.prove; simp only []; split <;> (try split) <;> cases r <;> rfl

@[simp] theorem Part.table_prove (p : Part) (r : RcuId) : (p.prove r).table = p.table := by
  unfold Part.prove; simp only []; split <;> (try split) <;> cases r <;> rfl

@[simp] theorem Part.stack_prove (p : Part) (r : RcuId) : (p.prove r).stack = p.stack := by
  unfold Part.prove; simp only []; split <;> (try split) <;> cases r <;> rfl

@[simp] theorem Part.window_prove (p : Part) (r : RcuId) : (p.prove r).window = p.window := by
  unfold Part.prove; simp only []; split <;> (try split) <;> cases r <;> rfl

theorem Part.radio_prove_ne (p : Part) {r r' : RcuId} (h : r' ≠ r) : (p.prove r).radio r' = p.radio r' := by
  unfold Part.prove; simp only []; split <;> (try split) <;> simp [Part.radio_setRadio_ne _ _ _ _ h]

@[simp] theorem Part.holder_startAnswerTimer (p : Part) (g : Settings) (r : RcuId) (x : ModuleOutcome) :
    ((p.startAnswerTimer g r x).radio r).holder = (p.radio r).holder := by
  unfold Part.startAnswerTimer; split <;> simp

@[simp] theorem Part.holder_endContinuous (p : Part) (r : RcuId) :
    ((p.endContinuous r).radio r).holder = (p.radio r).holder := by
  unfold Part.endContinuous; split <;> simp [Part.abandonMeasurement]

@[simp] theorem Part.holder_applyOutcome (p : Part) (r : RcuId) (o : Order) (x : ModuleOutcome) :
    ((p.applyOutcome r o x).radio r).holder = (p.radio r).holder := by
  unfold Part.applyOutcome; split <;> simp [Part.leaveInCall]

/-! ## From the slot to the record -/

/-- A record is told the outcomes of its orders (R58, step 4). -/
theorem Part.report_record (p : Part) (g : Settings) (r : RcuId) (k : RecId) (o : Order) (x : ModuleOutcome)
    (h : (p.radio r).holder = some k.holder) (hm : ∀ key, o ≠ .measure key) (hl : ∀ key, o ≠ .listen key) :
    p.report g r o x = p.recordTakes g k r o x := by
  unfold Part.report
  cases k <;> simp only [RecId.holder] at h <;> cases o <;> simp_all

/-- The window is told the outcomes of its orders. -/
theorem Part.report_window (p : Part) (g : Settings) (r : RcuId) (o : Order) (x : ModuleOutcome)
    (h : (p.radio r).holder = some .window) (hm : ∀ key, o ≠ .measure key) (hl : ∀ key, o ≠ .listen key) :
    p.report g r o x = p.windowTakes g o x := by
  unfold Part.report
  cases o <;> simp_all

/-- An outcome that belongs to a holder's order is taken, and told to the holder. -/
theorem Part.outcomeArrives_holder (g : Settings) (p : Part) (r : RcuId) (q : Pending) (o : ModuleOutcome)
    (tag : Nat) (hs : (p.radio r).slot = some q) (hi : q.issuer = .holder) (hp : q.phase ≠ .retired)
    (ht : q.tag = tag) (ha : q.order.answeredBy o = true) (hc : o ≠ .cancelDone) :
    p.outcomeArrives g r o tag =
      ((((p.modRadio r fun y => { y with slot := none }).applyOutcome r q.order o).startAnswerTimer g r
        o).prove r).report g r q.order o := by
  have : (q.phase != .retired) = true := by simpa using hp
  simp [Part.outcomeArrives, hs, hc, Pending.takes, ht, ha, this, Part.takeOutcome, hi]

/-- What an outcome does on an order that a record awaits. -/
theorem Part.outcomeArrives_awaited (g : Settings) (p : Part) (r : RcuId) (k : RecId) (q : Pending)
    (o : ModuleOutcome) (tag : Nat) (h : p.awaits k r q) (ht : q.tag = tag)
    (ha : q.order.answeredBy o = true) (hc : o ≠ .cancelDone) (hm : ∀ key, q.order ≠ .measure key)
    (hl : ∀ key, q.order ≠ .listen key) :
    p.outcomeArrives g r o tag =
      ((((p.modRadio r fun y => { y with slot := none }).applyOutcome r q.order o).startAnswerTimer g r
        o).prove r).recordTakes g k r q.order o := by
  obtain ⟨hs, hh, hi, hp⟩ := h
  rw [Part.outcomeArrives_holder g p r q o tag hs hi hp ht ha hc]
  exact Part.report_record _ _ _ _ _ _ (by simp [hh]) hm hl

/-- The same, where the outcome changes no condition. -/
theorem Part.outcomeArrives_told (g : Settings) (p : Part) (r : RcuId) (k : RecId) (q : Pending)
    (o : ModuleOutcome) (tag : Nat) (h : p.awaits k r q) (ht : q.tag = tag)
    (ha : q.order.answeredBy o = true) (hc : o ≠ .cancelDone) (hm : ∀ key, q.order ≠ .measure key)
    (hl : ∀ key, q.order ≠ .listen key) (hn : ∀ x : Part, x.applyOutcome r q.order o = x)
    (hal : o ≠ .alerting) :
    p.outcomeArrives g r o tag = (p.answeredOn r).recordTakes g k r q.order o := by
  rw [Part.outcomeArrives_awaited g p r k q o tag h ht ha hc hm hl, hn]
  simp [Part.startAnswerTimer, hal, Part.answeredOn]

@[simp] theorem Part.call_answeredOn (p : Part) (r : RcuId) (k : RecId) :
    (p.answeredOn r).call k = p.call k := by simp [Part.answeredOn]

@[simp] theorem Part.holder_answeredOn (p : Part) (r : RcuId) :
    ((p.answeredOn r).radio r).holder = (p.radio r).holder := by simp [Part.answeredOn]

@[simp] theorem Part.condition_answeredOn (p : Part) (r : RcuId) :
    ((p.answeredOn r).radio r).condition = (p.radio r).condition := by simp [Part.answeredOn]

@[simp] theorem Part.slot_answeredOn (p : Part) (r : RcuId) : ((p.answeredOn r).radio r).slot = none := by
  simp [Part.answeredOn]

@[simp] theorem Part.table_answeredOn (p : Part) (r : RcuId) : (p.answeredOn r).table = p.table := by
  simp [Part.answeredOn]

/-! ## From the bytes to the slot -/

/-- A frame without parameters, at an RCU that hears. -/
theorem State.receivePlain_taken (s : State) (r : RcuId) (kind tag : Byte) (f : ModuleFrame) (h : s.hears r)
    (hf : frameOf kind.toNat tag.toNat [] = some f) :
    s.receivePlain r kind tag = s.conclude (s.part.takeFrame s.settings r f) :=
  State.receive_taken s r kind tag [] f h (by simp) hf

/-- An outcome frame without parameters, at an RCU that hears. -/
theorem State.receivePlain_outcome (s : State) (r : RcuId) (kind tag : Byte) (o : ModuleOutcome)
    (h : s.hears r) (h1 : 1 ≤ tag.toNat) (h2 : tag.toNat ≤ 15) (ha : 65 ≤ kind.toNat)
    (hb : kind.toNat < 97) (ho : outcomeOf kind.toNat [] = some o) :
    s.receivePlain r kind tag = s.conclude (s.part.outcomeArrives s.settings r o tag.toNat) := by
  refine State.receivePlain_taken s r kind tag (.outcome o tag.toNat) h ?_
  have : ¬ kind.toNat = 32 := by omega
  simp [frameOf, this, hb, h1, h2, ho]

/-- Two bytes carry every number below 65536. -/
theorem num2_bytes2 (n : Nat) (h : n < 65536) : num2 (toByte (n / 256)) (toByte n) = n := by
  simp [num2, toByte, BitVec.toNat_ofNat]; omega

/-- An offer on a ready RCU is sent. -/
theorem Part.offer_ready (p : Part) (r : RcuId) (o : Order) (hc : (p.radio r).condition = .awake)
    (hs : (p.radio r).slot = none) (ho : o.allowedIn .awake = true) :
    p.offer r o = p.modRadio r (Radio.send o .holder) := by
  simp [Part.offer, Part.modRadio, Radio.offer, hc, hs, ho]

end Sys2Proof.Machine
end

