-- ==== Sys2Proof/Laws/Ports.lean ====
section
/-! SUPPORT. What a whole write and a read header do at a port whose transaction has just begun. -/

namespace Sys2Proof.Machine

/-- The transaction of a write in progress. -/
def Transaction.writingTo (address : Nat) (done : List Byte) : Transaction :=
  { Transaction.start with state := .writing, item := some address, byteCount := done.length, written := done }

/-- The transaction of a write whose last byte is complete. -/
def Transaction.wrote (address : Nat) (data : List Byte) : Transaction :=
  { Transaction.writingTo address data with state := .ignoring }

/-- The transaction of a read whose header has been taken. -/
def Transaction.readingFrom (address : Nat) (burst : List Byte) : Transaction :=
  { Transaction.start with state := .reading, item := some address, burst := some burst }

theorem State.setTx_self (s : State) (q : PortId) (t : Transaction) (h : s.tx q = t) : s.setTx q t = s := by
  subst h; cases q <;> rfl

/-- A write header opens the write. -/
theorem State.clock_writeHeader (s : State) (q : PortId) (address : Byte) (n : Nat) (early : Bool)
    (h : s.atStart q) (ha : address.toNat < 128) (hn : portWriteBytes q address.toNat = some n) :
    s.clock q early address = s.setTx q (Transaction.writingTo address.toNat []) := by
  obtain ⟨hh, ht⟩ := h
  have hm : address.toNat % 128 = address.toNat := Nat.mod_eq_of_lt ha
  have hd : ¬ 128 ≤ address.toNat := by omega
  simp [State.clock, hh, State.takeHeader, hm, hd, hn, State.modTx, ht, Transaction.writingTo,
    Transaction.start]

/-- A data byte that is not the last is kept. -/
theorem State.clock_data (s : State) (q : PortId) (address : Nat) (done : List Byte) (b : Byte) (early : Bool)
    (h : s.isHeld = false) (hn : portWriteBytes q address ≠ some (done.length + 1)) :
    (s.setTx q (Transaction.writingTo address done)).clock q early b =
      s.setTx q (Transaction.writingTo address (done ++ [b])) := by
  simp [State.clock, h, State.takeData, Transaction.writingTo, hn]

/-- The last data byte takes the write. -/
theorem State.clock_lastData (s : State) (q : PortId) (address : Nat) (done : List Byte) (b : Byte)
    (early : Bool) (h : s.isHeld = false) (hn : portWriteBytes q address = some (done.length + 1)) :
    (s.setTx q (Transaction.writingTo address done)).clock q early b =
      State.takeWrite q address (done ++ [b]) (s.setTx q (Transaction.wrote address (done ++ [b]))) := by
  simp [State.clock, h, State.takeData, Transaction.writingTo, Transaction.wrote, hn]

theorem State.clock_allData (s : State) (q : PortId) (address n : Nat) (early : Bool)
    (h : s.isHeld = false) (hn : portWriteBytes q address = some n) :
    ∀ (todo done : List Byte), todo ≠ [] → done.length + todo.length = n →
      (s.setTx q (Transaction.writingTo address done)).clockBytes q early todo =
        State.takeWrite q address (done ++ todo) (s.setTx q (Transaction.wrote address (done ++ todo))) := by
  intro todo
  induction todo with
  | nil => intro _ h0; exact absurd rfl h0
  | cons b rest ih =>
    intro done _ hl
    cases rest with
    | nil =>
      have : portWriteBytes q address = some (done.length + 1) := by rw [hn, ← hl]; rfl
      simpa [State.clockBytes] using State.clock_lastData s q address done b early h this
    | cons b' rest' =>
      have hne : portWriteBytes q address ≠ some (done.length + 1) := by
        rw [hn]; simp at hl ⊢; omega
      have := ih (done ++ [b]) (by simp) (by simp at hl ⊢; omega)
      simp only [State.clockBytes, List.foldl_cons] at this ⊢
      rw [State.clock_data s q address done b early h hne, this]
      simp

/-- A whole write at a port that is at its header is taken (R147, R158). -/
theorem State.writeItem_taken (s : State) (q : PortId) (address : Byte) (data : List Byte)
    (h : s.atStart q) (ha : address.toNat < 128)
    (hn : portWriteBytes q address.toNat = some data.length) (hne : data ≠ []) :
    s.writeItem q address data =
      State.takeWrite q address.toNat data (s.setTx q (Transaction.wrote address.toNat data)) := by
  have h1 := State.clock_writeHeader s q address data.length false h ha hn
  have h2 := State.clock_allData s q address.toNat data.length false h.1 hn data [] hne (by simp)
  simp only [State.writeItem, State.clockBytes, List.foldl_cons] at h2 ⊢
  rw [h1]; simpa using h2

/-- A read header latches the burst and has its further effect (R146, R158). -/
theorem State.clock_readHeader (s : State) (q : PortId) (header : Byte) (burst : List Byte) (early : Bool)
    (h : s.atStart q) (ha : 128 ≤ header.toNat) (hb : s.burstFor q (header.toNat % 128) = some burst)
    (hr : (s.readEffect q (header.toNat % 128)).tx q = s.tx q) :
    s.clock q early header = (s.readEffect q (header.toNat % 128)).setTx q
      (Transaction.readingFrom (header.toNat % 128) burst) := by
  obtain ⟨hh, ht⟩ := h
  simp only [State.clock, hh, State.takeHeader, ha, hb, if_true, State.modTx, hr, ht]
  rfl

/-- What the byte at a place of a read carries (R148): the first, clocked too early, carries 0, and so does every
byte behind the burst. -/
def readOut (burst : List Byte) (early : Bool) (i : Nat) : Byte :=
  if i = 0 ∧ early = true then 0 else burst[i]?.getD 0

/-- The bytes of a read, from any place of the burst on, and of what is clocked behind it. -/
theorem State.clockBytes_read (s : State) (q : PortId) (burst : List Byte) (early : Bool)
    (h : s.isHeld = false) : ∀ (n m : Nat) (t : Transaction),
      (t.state = .reading ∧ t.burst = some burst ∧ t.byteCount = m ∧ m < burst.length) ∨
        (t.state = .ignoring ∧ burst.length ≤ m ∧ 0 < m) →
      ∃ t', (s.setTx q t).clockBytes q early (List.replicate n 0) = s.setTx q t' ∧
        t'.dataOut = t.dataOut ++ (List.range n).map fun i => readOut burst early (m + i)
  | 0, _, t, _ => ⟨t, rfl, by simp⟩
  | n + 1, m, t, ht => by
    have next : ∃ u : Transaction, (s.setTx q t).clock q early 0 = s.setTx q u ∧
        u.dataOut = t.dataOut ++ [readOut burst early m] ∧
        ((u.state = .reading ∧ u.burst = some burst ∧ u.byteCount = m + 1 ∧ m + 1 < burst.length) ∨
          (u.state = .ignoring ∧ burst.length ≤ m + 1 ∧ 0 < m + 1)) := by
      rcases ht with ⟨h1, h2, h3, h4⟩ | ⟨h1, h2, h3⟩
      · refine ⟨t.sendByte early, by simp [State.clock, h, h1, State.modTx], ?_, ?_⟩
        · simp [Transaction.sendByte, h2, h3, readOut]
        · by_cases hl : burst.length ≤ m + 1
          · right; simp [Transaction.sendByte, h2, h3, hl]
          · left; simp [Transaction.sendByte, h2, h3, hl]; omega
      · refine ⟨t.sendZero, by simp [State.clock, h, h1, State.modTx], ?_, ?_⟩
        · have : ¬ m = 0 := by omega
          simp [Transaction.sendZero, readOut, this, List.getElem?_eq_none h2]
        · right; exact ⟨h1, by omega, by omega⟩
    obtain ⟨u, hu, hd, hc⟩ := next
    obtain ⟨t', e1, e2⟩ := State.clockBytes_read s q burst early h n (m + 1) u hc
    refine ⟨t', ?_, ?_⟩
    · rw [List.replicate_succ]
      simp only [State.clockBytes, List.foldl_cons] at e1 ⊢
      rw [hu]; exact e1
    · rw [e2, hd, List.range_succ_eq_map]
      simp [Function.comp_def, Nat.add_assoc, Nat.add_comm 1]

/-- A whole read at a port that is at its header: what it leaves, and what it sends (R148, R158). -/
theorem State.readItem_taken (s : State) (q : PortId) (header : Byte) (burst : List Byte) (clocks : Nat)
    (early : Bool) (h : s.atStart q) (ha : 128 ≤ header.toNat)
    (hb : s.burstFor q (header.toNat % 128) = some burst) (hl : 0 < burst.length)
    (hr : (s.readEffect q (header.toNat % 128)).tx q = s.tx q)
    (hh : (s.readEffect q (header.toNat % 128)).isHeld = s.isHeld) :
    ∃ t, s.readItem q header clocks early = (s.readEffect q (header.toNat % 128)).setTx q t ∧
      t.dataOut = (List.range clocks).map (readOut burst early) := by
  obtain ⟨t, e1, e2⟩ := State.clockBytes_read (s.readEffect q (header.toNat % 128)) q burst early
    (by rw [hh]; exact h.1) clocks 0 (Transaction.readingFrom (header.toNat % 128) burst)
    (Or.inl ⟨rfl, rfl, rfl, hl⟩)
  refine ⟨t, ?_, by simpa [Transaction.readingFrom, Transaction.start] using e2⟩
  rw [← e1]
  simp only [State.readItem, State.clockBytes, List.foldl_cons]
  rw [State.clock_readHeader s q header burst early h ha hb hr]

/-- A header that no item of the port answers is ignored, with all that follows it (R146, R158). -/
theorem State.clock_ignoredHeader (s : State) (q : PortId) (header : Byte) (early : Bool) (h : s.atStart q)
    (hr : 128 ≤ header.toNat → s.burstFor q (header.toNat % 128) = none)
    (hw : header.toNat < 128 → portWriteBytes q header.toNat = none) :
    s.clock q early header = s.setTx q { Transaction.start with state := .ignoring } := by
  obtain ⟨hh, ht⟩ := h
  rcases Nat.lt_or_ge header.toNat 128 with hlt | hge
  · have hm : header.toNat % 128 = header.toNat := Nat.mod_eq_of_lt hlt
    have hd : ¬ 128 ≤ header.toNat := by omega
    simp [State.clock, hh, State.takeHeader, hm, hd, hw hlt, State.modTx, ht, Transaction.start]
  · simp [State.clock, hh, State.takeHeader, hge, hr hge, State.modTx, ht, Transaction.start]

/-- Bytes at a port that ignores them (R146, R158). -/
theorem State.clockBytes_ignored (s : State) (q : PortId) (early : Bool) (h : s.isHeld = false) :
    ∀ (bytes : List Byte) (t : Transaction), t.state = .ignoring →
      (s.setTx q t).clockBytes q early bytes =
        s.setTx q { t with dataOut := t.dataOut ++ List.replicate bytes.length 0 }
  | [], t, _ => by simp [State.clockBytes]
  | b :: rest, t, ht => by
    have e : (s.setTx q t).clock q early b = s.setTx q { t with dataOut := t.dataOut ++ [0] } := by
      simp [State.clock, h, ht, State.modTx, Transaction.sendZero]
    have := State.clockBytes_ignored s q early h rest { t with dataOut := t.dataOut ++ [0] } ht
    simp only [State.clockBytes, List.foldl_cons] at this ⊢
    rw [e, this]
    simp [List.replicate_succ]

/-- Bytes at a port of a held part: each drives a zero byte, and nothing else changes (R156). -/
theorem State.clockBytes_held (s : State) (q : PortId) (early : Bool) (h : s.isHeld = true) :
    ∀ bytes : List Byte, s.clockBytes q early bytes =
      s.modTx q fun t => { t with dataOut := t.dataOut ++ List.replicate bytes.length 0 }
  | [] => by simp [State.clockBytes, State.modTx, State.setTx_self]
  | b :: rest => by
    have e : s.clock q early b = s.modTx q Transaction.sendZero := by simp [State.clock, h]
    have h' : (s.modTx q Transaction.sendZero).isHeld = true := by
      rw [← h]; cases q <;> rfl
    have := State.clockBytes_held _ q early h' rest
    simp only [State.clockBytes, List.foldl_cons] at this ⊢
    rw [e, this]
    cases q <;> simp [State.modTx, State.setTx, State.tx, Transaction.sendZero, List.replicate_succ]

/-- A write cut short: the data bytes so far are kept, and nothing is taken (R147, R158). -/
theorem State.clock_someData (s : State) (q : PortId) (address n : Nat) (early : Bool) (h : s.isHeld = false)
    (hn : portWriteBytes q address = some n) : ∀ (todo done : List Byte), done.length + todo.length < n →
      (s.setTx q (Transaction.writingTo address done)).clockBytes q early todo =
        s.setTx q (Transaction.writingTo address (done ++ todo))
  | [], done, _ => by simp [State.clockBytes]
  | b :: rest, done, hl => by
    have hne : portWriteBytes q address ≠ some (done.length + 1) := by
      rw [hn]; simp at hl ⊢; omega
    have := State.clock_someData s q address n early h hn rest (done ++ [b]) (by simp at hl ⊢; omega)
    simp only [State.clockBytes, List.foldl_cons] at this ⊢
    rw [State.clock_data s q address done b early h hne, this]
    simp

end Sys2Proof.Machine
end

