-- ==== Sys2Proof/Laws/Table.lean ====
section
/-! SUPPORT. What the removals of R20 and the writes of one slot do to the Cell Table, slot by slot. -/

namespace Sys2Proof.Machine

theorem Part.entryAt_congr {p q : Part} (h : p.table = q.table) (i : Nat) : p.entryAt i = q.entryAt i := by
  simp [Part.entryAt, h]

/-- R20: a slot after the removals. -/
theorem Part.entryAt_prune (p : Part) (i : Nat) :
    p.prune.entryAt i = (p.entryAt i).filter fun e => !(e.age == 15 && !p.pinned i e.key) := by
  simp only [Part.entryAt, Part.prune, List.getElem?_mapIdx]
  cases p.table[i]? <;> rfl

/-- A removal of R20 leaves what it does not remove. -/
theorem Part.entryAt_of_prune (p : Part) (i : Nat) (e : Entry) (h : p.prune.entryAt i = some e) :
    p.entryAt i = some e := by
  rw [Part.entryAt_prune, Option.filter_eq_some_iff] at h; exact h.1

/-- R20 removes no entry younger than 15. -/
theorem Part.entryAt_prune_young (p : Part) (i : Nat) (e : Entry) (h : p.entryAt i = some e)
    (ha : e.age ≠ 15) : p.prune.entryAt i = some e := by
  rw [Part.entryAt_prune, Option.filter_eq_some_iff]; exact ⟨h, by simp [ha]⟩

@[simp] theorem Part.table_length_prune (p : Part) : p.prune.table.length = p.table.length := by
  simp [Part.prune]

@[simp] theorem Part.call_prune (p : Part) (k : RecId) : p.prune.call k = p.call k := by cases k <;> rfl

@[simp] theorem Part.claims_prune (p : Part) : p.prune.claims = p.claims := rfl
@[simp] theorem Part.stack_prune (p : Part) : p.prune.stack = p.stack := rfl
@[simp] theorem Part.window_prune (p : Part) : p.prune.window = p.window := rfl
@[simp] theorem Part.power_prune (p : Part) : p.prune.power = p.power := rfl
@[simp] theorem Part.survey_prune (p : Part) : p.prune.survey = p.survey := rfl
@[simp] theorem Part.voice_prune (p : Part) (d : Side) : p.prune.voice d = p.voice d := by cases d <;> rfl

/-- The entry of a slot after a change of a slot. -/
theorem Part.entryAt_modEntry (p : Part) (i j : Nat) (f : Entry → Entry) :
    (p.modEntry i f).entryAt j = if i = j then (p.entryAt j).map f else p.entryAt j := by
  simp only [Part.entryAt, Part.modEntry, List.getElem?_modify]
  split
  · cases p.table[j]? with
    | none => rfl
    | some o => cases o <;> rfl
  · cases p.table[j]? <;> rfl

end Sys2Proof.Machine
end

