-- ==== Sys2Proof/Tests/Slice0.lean ====
section
/-! SUPPORT. Tests: a refused term for each well-formedness check, small steps whose result the manual writes out,
and for every statement with hypotheses a state and operands that meet them. -/

namespace Sys2Proof.Tests

set_option Elab.async false

open Sys2Proof Sys2Proof.Machine

/-! ## Small states -/

/-- The part just released after a power-on. -/
def running : State := ((State.reset.setBattery 2000000).endSupplyLow).release

def put (p : Part) : State := { running with part := p }

/-- An RCU with a condition, a holder and a slot. -/
def rcu (c : Condition) (h : Option Holder) (o : Option Pending) : Radio :=
  { Radio.held with condition := c, holder := h, slot := o }

/-- An order of the holder, with tag 15. -/
def order (o : Order) (ph : OrderPhase) : Pending :=
  { order := o, tag := 15, issuer := .holder, phase := ph, limit := some 1, cancel := none }

/-- A record in a state. -/
def record (st : RecState) : CallRec := { CallRec.initial with state := st }

/-- RCU 0 as given, and side A's record. -/
def withA (c : CallRec) (x : Radio) : State := put ((running.part.setRadio .rcu0 x).setCall .sideA c)

/-- RCU 0 as given, and the TEST record. -/
def withTest (c : CallRec) (x : Radio) : State := put ((running.part.setRadio .rcu0 x).setCall .test c)

/-- RCU 0 as given. -/
def withRadio (x : Radio) : State := put (running.part.setRadio .rcu0 x)

/-- A port whose transaction has just begun. -/
def opened (q : PortId) (s : State) : State := s.setTx q Transaction.start

def cell0 : CarrierKey := { key := { band := 0, channel := 640 }, carrier := 118 }

def entry0 : Entry :=
  { key := cell0.key, carrier := 118, kind := .narrow, level := 30, quality := 80, age := 0, failures := 0,
    barring := .openAccess, fullRefused := false }

/-- Slot 0 of the table holds an entry. -/
def stored (e : Entry) (p : Part) : Part := { p with table := p.table.set 0 (some e) }

/-- An attempt on slot 0. -/
def try0 (a : Access) (d : Destination) : Attempt :=
  { target := .slot 0, cell := some cell0, access := a, destination := d, attached := true, opsFailed := false }

/-- A record with an attempt. -/
def trying (st : RecState) (a : Attempt) : CallRec := { record st with attempt := some a }

def note0 : SiteNote := running.part.siteNote Settings.default .sideA .full

def window0 (st : WindowState) : Window :=
  { side := .a, sequence := 1, campKey := cell0, state := st, expiry := 600000000 }

def inWindow (w : Window) (s : State) : State := s.modPart fun p => { p with window := some w }

/-- Settings that know the carrier of `cell0`. -/
def subscribed : Settings :=
  { Settings.default with operators := Settings.default.operators.set 15 (some ⟨118, 0, true⟩) }

/-! ## Well-formedness: each check refuses a term -/

theorem test_wellFormed_tagZero : (Instr.moduleAcknowledgement .rcu0 0).WellFormed = false := by decide
theorem test_wellFormed_tagHigh : (Instr.settled .rcu0 16 0).WellFormed = false := by decide
theorem test_wellFormed_heardCarrier : (Instr.heard .rcu1 1 0 0 0).WellFormed = false := by decide
theorem test_wellFormed_heardCarrierHigh : (Instr.heard .rcu1 1 1000 0 0).WellFormed = false := by decide
theorem test_wellFormed_heardKind : (Instr.heard .rcu1 1 118 3 0).WellFormed = false := by decide
theorem test_wellFormed_heardBarring : (Instr.heard .rcu1 1 118 0 3).WellFormed = false := by decide
theorem test_wellFormed_acceptedBand :
    (Instr.accepted .rcu0 1 (some ⟨6, 0, 118, 0, 0⟩)).WellFormed = false := by decide
theorem test_wellFormed_acceptedChannel :
    (Instr.accepted .rcu0 1 (some ⟨0, 4096, 118, 0, 0⟩)).WellFormed = false := by decide
theorem test_wellFormed_acceptedCarrier :
    (Instr.accepted .rcu0 1 (some ⟨0, 0, 0, 0, 0⟩)).WellFormed = false := by decide
theorem test_wellFormed_acceptedCodes :
    (Instr.accepted .rcu0 1 (some ⟨0, 0, 118, 0, 3⟩)).WellFormed = false ∧
    (Instr.accepted .rcu0 1 (some ⟨0, 0, 118, 3, 0⟩)).WellFormed = false := by decide
theorem test_wellFormed_outcomeTags :
    (Instr.notHeard .rcu0 0).WellFormed = false ∧ (Instr.rejectedBarred .rcu0 0).WellFormed = false ∧
    (Instr.rejectedSubscription .rcu0 0).WellFormed = false ∧
    (Instr.rejectedCongested .rcu0 0).WellFormed = false ∧ (Instr.noCell .rcu0 0).WellFormed = false ∧
    (Instr.alerting .rcu0 0).WellFormed = false ∧ (Instr.answered .rcu0 0).WellFormed = false ∧
    (Instr.dialRejected .rcu0 0).WellFormed = false ∧ (Instr.delivered .rcu0 0).WellFormed = false ∧
    (Instr.notDelivered .rcu0 0).WellFormed = false ∧ (Instr.done .rcu0 0).WellFormed = false ∧
    (Instr.camped .rcu0 0).WellFormed = false ∧ (Instr.cancelDone .rcu0 0).WellFormed = false := by decide
theorem test_wellFormed_header : (Instr.ignoredHeader .panelA 0x81 []).WellFormed = false := by decide
theorem test_wellFormed_panelCode : (Instr.unknownCommand .a 3).WellFormed = false := by decide
theorem test_wellFormed_settingBytes : (Instr.settingWrite .kindBonuses [1, 2]).WellFormed = false := by decide
theorem test_wellFormed_digits : (Instr.destinations 0 1 [5]).WellFormed = false := by decide
theorem test_wellFormed_cabinetCode : (Instr.unknownCode 31 0).WellFormed = false := by decide
theorem test_wellFormed_malformed : (Instr.malformedFrame .rcu0 [65, 1, 24]).WellFormed = false := by decide
theorem test_wellFormed_discarded :
    (Instr.discardedFrame .rcu0 [65, 1, 0]).WellFormed = false ∧
    (Instr.discardedFrame .rcu0 [65, 1, 25, 0]).WellFormed = false := by decide

/-! ## Small steps -/

/-- R187, Table 11-2: the frame of SETTLED with tag 3 is 65, 3, 0 and the check byte 66. -/
theorem test_settledFrame : linkFrame 65 3 [] = [65, 3, 0, 66] ∧
    parseFrame [65, 3, 0, 66] = some (.outcome .settled 3) ∧ parseFrame [65, 3, 0, 67] = none := by decide

/-- R23, R24: 0.02 V and below give 0, 0.03 V gives 1, and 2.51 V gives 63. -/
theorem test_conversion : (Conversion.begin .battery 20000).result = 0 ∧
    (Conversion.begin .battery 30000).result = 1 ∧ (Conversion.begin .battery 2510000).result = 63 := by
  decide +kernel

/-- R68, R185: both RCUs boot at the release, and READY brings one to AWAKE. -/
theorem test_ready : running.part.radio0.condition = .booting ∧
    (match exec (.ready .rcu0) running with
      | .next t => t.part.radio0.condition == .awake && t.part.radio0.proving
      | _ => false) = true := by decide +kernel

/-- R97, R85: CALL with a free RCU goes to SEEKING in the same event. -/
theorem test_call : (match exec (.call .a) (opened .panelA running) with
    | .next t => t.part.sideA.state == .seeking && t.part.rcuOf .sideA == some .rcu0 &&
        t.part.sideA.sequence == 1 && t.panelA.lastResult == .accepted
    | _ => false) = true := by decide +kernel

/-- R154: a second CALL is refused. -/
theorem test_callRefused : (match exec (.call .a) (opened .panelA (withA (record .queued) Radio.held)) with
    | .next t => t.panelA.lastResult == .refusedState
    | _ => false) = true := by decide +kernel

/-- R22, R167: an empty slot reads as its number and zeros, and the table select moves on. -/
theorem test_tableEntry : (match exec (.tableEntry 3 false) (opened .cabinet running) with
    | .next t => t.cabinet.tx.dataOut == [0, 0, 0] && t.cabinet.tableSelect == 1
    | _ => false) = true := by decide +kernel

/-- R22: byte 1 of an eligible open narrow entry is 3, the level is byte 6. -/
theorem test_tableEntryBytes : (opened .cabinet (put (stored entry0 running.part))).tableEntryBurst =
    [0, 3, 0, 2, 128, 0, 118, 30, 80, 0, 0, 80] := by decide +kernel

/-- R160: a level floor of 0 is stored as 1, and the write is marked clamped. -/
theorem test_levelFloor : (match exec (.settingWrite .levelFloor [0]) (opened .cabinet running) with
    | .next t => t.settings.levelFloor == 1 && t.cabinet.clamped
    | _ => false) = true := by decide +kernel

/-- R183: RESET holds the part for 5 ms. -/
theorem test_reset : (match exec (.reset 0) (opened .cabinet running) with
    | .next t => t.isHeld && t.part.power.cabinetHold == some 5000 && t.part.power.resetCause == .cabinet
    | _ => false) = true := by decide +kernel

/-- R71: a DOZE in flight at the assignment is waited for, and WAKE follows its DONE though the assignment has
ended. -/
theorem test_bringUpOutlivesItsHolder :
    (let x := Radio.bringUp (rcu .doze (some .survey) (some { order .doze .outcomeWait with issuer := .rcu }));
      match exec (.done .rcu0 15) (withRadio { x with holder := none }) with
      | .next t => t.part.radio0.condition == .waking && t.part.radio0.slot.any (·.order == .wake)
      | _ => false) = true := by decide +kernel

/-- R156: a byte clocked in a hold drives a zero byte. -/
theorem test_heldOutput : (match exec (.peek .a 1 false) State.reset with
    | .next t => t.panelA.tx.dataOut == [0, 0] && t.panelA.tx.state == State.reset.panelA.tx.state
    | _ => false) = true := by decide +kernel

/-- R186: a brown-out that meets the release writes the record again, and the part stays HELD. -/
theorem test_brownOutMeetsTheRelease : (match exec .brownOutAssert State.reset with
    | .next t => (match exec (.brownOutDeassert 2000000) t with
      | .next u => u.isHeld && u.part.power.resetCause == .brownOut && u.part.power.resetCount == 1
      | _ => false)
    | _ => false) = true := by decide +kernel

/-! ## Witnesses: the hypotheses of each statement can be met -/

theorem test_witness_StepTakesFrontCommand :
    ({ running with pending := [Instr.ageTick, .windowExpiry] } : State).pending =
      Instr.ageTick :: [.windowExpiry] := by decide

theorem test_witness_EveryCommandCompletes : mayChangeSettings (.call .a) = false := by decide

theorem test_witness_IdleStepOnlyPassesTime : running.pending = [] ∧
    (∃ c, running.part.converter.current = some c) ∧ Converter.cleared.current = none ∧
    (let p := { (withRadio { Radio.held with gate := { GateCounter.cleared with mode := .opened, ticksLeft := 2 } }).part
        with frameClock := some 20 };
      (p.frameClock.any fun n => decide (n ≤ 20)) = true ∧ (p.radio .rcu0).gate.mode = .opened ∧
      1 < (p.radio .rcu0).gate.ticksLeft) ∧
    (running.part.frameClock.any fun n => decide (n ≤ 20)) = false :=
  ⟨rfl, ⟨_, rfl⟩, rfl, by decide +kernel, by decide +kernel⟩

theorem test_witness_EventsEndWithTheirReports : running.part.isQuiet = true ∧
    (∀ x ∈ allReactions, x.enabled running.part = false) ∧
    (let p := (withRadio (rcu .doze (some .survey) none)).part;
      allReactions = [.testNoRadio] ++ .wake .rcu0 :: allReactions.drop 2 ∧
      Reaction.testNoRadio.enabled p = false ∧ (Reaction.wake .rcu0).enabled p = true) ∧
    ((rcu .awake none none).condition = .awake ∧ (rcu .awake none none).slot = none ∧
      (rcu .awake none none).holder = none ∧ (rcu .doze none none).condition ≠ .awake) := by decide +kernel

theorem test_witness_ResetsWriteTheRecord : running.part.power.supplyLow = false ∧
    State.reset.part.power.supplyLow = true ∧ exec .brownOutAssert State.reset = .next State.reset.beginBrownOut ∧
    (opened .cabinet running).atStart .cabinet := ⟨rfl, rfl, rfl, rfl, rfl⟩

theorem test_witness_HeldPartTakesNothing : (let m := PowerMonitor.held true none .powerOn 0
    State.reset.part = Part.held State.reset.part.lines m ∧ State.reset.isHeld = true ∧ m.sampleTimer = none) ∧
    (portBytes (.call .a) = some (.panelA, 2) ∧ actsInHold (.call .a) = false) ∧
    actsInHold (.selectAssert .cabinet) = false ∧ actsInHold (.selectDeassert .panelB [1] false) = false ∧
    actsInHold (.settled .rcu0 1 0) = false ∧ (portBytes .ageTick = none ∧ actsInHold .ageTick = false) := by
  decide +kernel

/-- The part held, by its supply, by a cabinet reset, or by both. -/
def heldBy (low : Bool) (hold : Timer) (g : Settings) : State :=
  { State.reset with part := Part.held State.reset.part.lines (PowerMonitor.held low hold .cabinet 255)
                     settings := g }

def listed : Settings :=
  { Settings.default with channels := Settings.default.channels.set 63 (some { key := ⟨5, 4095⟩, gate := 32 }) }

theorem test_witness_ReleaseStartsThePart :
    (∀ low hold, let m := PowerMonitor.held low hold .cabinet 255;
      m.sampleTimer = none ∧ m.level = .normal ∧ m.supplyLow = low ∧ m.cabinetHold = hold ∧
        (heldBy low hold Settings.default).part = Part.held State.reset.part.lines m) ∧
    (PowerMonitor.held true none .cabinet 255).reasserted = false ∧
    (match exec .brownOutAssert (heldBy true none Settings.default) with
      | .next t => t.part.power.reasserted && t.part.power.supplyLow
      | _ => false) = true ∧
    (heldBy true none Settings.default).settings.listHasItem = false ∧
    (heldBy false (some 0) listed).settings.listHasItem = true :=
  ⟨fun _ _ => ⟨rfl, rfl, rfl, rfl, rfl⟩, rfl, by decide +kernel, by decide +kernel, by decide +kernel⟩

theorem test_witness_FramesFollowTheTables : running.hears .rcu1 ∧ ([] : List Byte).length ≤ 24 ∧
    (List.replicate 24 (0 : Byte)).length ≤ 24 ∧ frameOf (BitVec.toNat (65 : Byte)) (BitVec.toNat (15 : Byte)) [] =
      some (.outcome .settled 15) := by decide +kernel

def cancelled (ph : CancelPhase) (o : Order) : Pending :=
  { order o .retired with cancel := some { tag := 1, phase := ph, limit := 1 } }

theorem test_witness_AcknowledgementStartsTheLimit :
    (let s := withRadio (rcu .awake (some .sideA) (some (order .attachAny .ackWait)));
      s.hears .rcu0 ∧ (s.part.radio .rcu0).slot = some (order .attachAny .ackWait) ∧
      (order .attachAny .ackWait).phase = .ackWait ∧ (order .attachAny .ackWait).tag = (15 : Byte).toNat) ∧
    (let s := withRadio (rcu .awake (some .sideA) (some (cancelled .ackWait .attachAny)));
      s.hears .rcu0 ∧ (s.part.radio .rcu0).slot = some (cancelled .ackWait .attachAny) ∧
      (cancelled .ackWait .attachAny).phase = .retired ∧
      (cancelled .ackWait .attachAny).cancel = some ⟨(1 : Byte).toNat, .ackWait, 1⟩) ∧
    (let s := withRadio (rcu .awake none none);
      s.hears .rcu0 ∧ (s.part.radio .rcu0).slot = none) := by decide +kernel

theorem test_witness_OutcomesAreTakenByTag :
    (let q := order .attachAny .outcomeWait;
      ((withRadio (rcu .awake (some .sideA) (some q))).part.radio .rcu0).slot = some q ∧ q.tag = 15 ∧
      q.phase ≠ .retired ∧ q.order.answeredBy .noCell = true ∧ ModuleOutcome.noCell ≠ .cancelDone ∧
      q.order.answeredBy .settled = false ∧ q.tag ≠ 1) ∧
    (let q := cancelled .doneWait .attachAny;
      q.phase = .retired ∧ q.cancel.any (fun c => c.tag != 2) = true) ∧
    (rcu .awake none none).slot = none ∧
    ({ rcu .awake none none with proving := true, faultCount := 1 } : Radio).proving = true := by decide +kernel

theorem test_witness_OutcomesChangeTheCondition :
    Order.wake.answeredBy .done = true ∧ Order.doze.answeredBy .done = true ∧
    (Order.dial [1]).answeredBy .alerting = true ∧ (Order.dial [1]).answeredBy .answered = true ∧
    (Order.dial [1]).answeredBy .dialRejected = true ∧ Order.answer.answeredBy .done = true ∧
    (Order.camp cell0).answeredBy .camped = true ∧ (Order.camp cell0).answeredBy .noCell = true ∧
    Order.release.answeredBy .done = true ∧ Order.reject.answeredBy .done = true ∧
    (Order.attach cell0.key .full).answeredBy .noCell = true ∧
    ((withRadio (rcu .waking none none)).part.radio .rcu0).condition = .waking ∧
    ((withRadio (rcu .inCall none none)).part.radio .rcu0).condition = .inCall := by decide +kernel

theorem test_witness_CancelsRetireTheOrder :
    (order .answer .outcomeWait).issuer = .holder ∧ (order .answer .outcomeWait).phase ≠ .retired ∧
    (cancelled .ackWait .answer).phase = .retired ∧
    ({ order .doze .ackWait with issuer := .rcu } : Pending).issuer = .rcu ∧
    (let s := withRadio (rcu .awake none (some (cancelled .doneWait .answer)));
      s.hears .rcu0 ∧ (s.part.radio .rcu0).slot = some (cancelled .doneWait .answer) ∧
      (cancelled .doneWait .answer).cancel = some ⟨(1 : Byte).toNat, .doneWait, 1⟩) := by decide +kernel

theorem test_witness_BadFramesReachNoOne : running.listens .rcu0 ∧ 24 < (25 : Byte).toNat ∧
    (let s := withRadio { Radio.held with receiver := .discarding };
      s.isHeld = false ∧ (s.part.radio .rcu0).receiver = .discarding) ∧
    (let s := withRadio { Radio.held with receiver := .partly [65, 3] };
      s.isHeld = false ∧ (s.part.radio .rcu0).receiver = .partly [65, 3] ∧
      ([65, 3] ++ ([] : List Byte)).length < 3 ∧ (24 : Byte).toNat ≤ 24 ∧
      (List.replicate 24 (0 : Byte)).length ≤ (24 : Byte).toNat) ∧
    (0 : Byte) ≠ checkByte (65 :: 3 :: toByte 0 :: []) ∧ frameOf 65 16 [] = none ∧
    (withRadio (rcu .off none none)).listens .rcu0 ∧
    ((withRadio (rcu .off none none)).part.radio .rcu0).supplyOn = false := by decide +kernel

theorem test_witness_OutcomeFramesArrive : running.hears .rcu0 ∧ 1 ≤ (1 : Byte).toNat ∧ (15 : Byte).toNat ≤ 15 ∧
    CellReport.inRange ⟨5, 4095, 999, 2, 2⟩ = true ∧ CellReport.inRange ⟨0, 0, 1, 0, 0⟩ = true ∧
    carrierInRange 999 = true ∧ carrierInRange 1 = true ∧ codeInRange 2 = true := by decide +kernel

theorem test_witness_ReadyAndMisplacedNotices : running.hears .rcu0 ∧
    (running.part.radio .rcu0).condition = .booting ∧
    (withRadio (rcu .inCall none none)).hears .rcu0 ∧
    ((withRadio (rcu .inCall none none)).part.radio .rcu0).condition ≠ .booting ∧
    ((withRadio (rcu .inCall none none)).part.radio .rcu0).condition ≠ .camped ∧
    ((withRadio (rcu .inCall none none)).part.radio .rcu0).answerTimer = none ∧
    ((withRadio { rcu .awake none (some (order (.measure cell0.key) .ackWait)) with
      sweep := some { Sweep.create .full with phase := .measuring, endedNow := true } }).part.radio .rcu0).begunNow =
        true ∧
    ((withRadio (rcu .awake none none)).part.radio .rcu0).begunNow = false := by decide +kernel

theorem test_witness_ModuleFaultsTakeTheRadioDown :
    (∀ h ∈ [Holder.survey, .window], ((withRadio (rcu .awake (some h) none)).part.radio .rcu0).holder = some h) ∧
    (∀ st ∈ [RecState.seeking, .attaching, .dialling, .ringing, .announcing, .connected, .clearing, .alertingIn],
      let p := (withA (record st) (rcu .awake (some .sideA) none)).part;
      (p.radio .rcu0).holder = some RecId.sideA.holder ∧ (p.call .sideA).state = st ∧
      (p.radio RcuId.rcu0.other).holder ≠ some RecId.sideA.holder) ∧
    (let p := (inWindow (window0 (.lent .a)) (withA (record .connected) (rcu .inCall (some .sideA) none))).part;
      p.window = some (window0 (.lent .a)) ∧ (window0 (.lent .a)).state = .lent .a ∧ RecId.sideA.side = some .a) ∧
    (rcu .awake none none).faultCount < 2 ∧ 2 ≤ ({ rcu .awake none none with faultCount := 2 } : Radio).faultCount ∧
    running.isHeld = false ∧ (order .wake .ackWait).phase = .ackWait ∧
    (cancelled .ackWait .answer).cancel = some ⟨1, .ackWait, 1⟩ ∧
    (order .wake .outcomeWait).phase = .outcomeWait ∧ (order .wake .outcomeWait).order.failsSoft = false ∧
    (cancelled .doneWait .answer).cancel = some ⟨1, .doneWait, 1⟩ ∧
    (running.part.radio .rcu0).condition = .booting ∧ (running.part.radio .rcu0).readyTimer.isSome = true ∧
    (running.part.radio .rcu0).slot = none ∧
    ((withRadio (rcu .awake none none)).part.radio .rcu0).condition ≠ .booting := by decide +kernel

theorem test_witness_RadiosDozeAndRecover :
    (let x : Radio := { rcu .awake none none with dozeTimer := some 0 };
      (withRadio x).isHeld = false ∧ x.dozeTimer.isSome = true ∧ x.condition = .awake ∧ x.slot = none ∧
      x.holder = none) ∧
    (let x : Radio := { rcu .faulted none none with recoveryTimer := some 0 };
      x.condition = .faulted ∧ x.recoveryTimer.isSome = true ∧ x.broken = true ∧
      running.part.power.level ≠ .shed) ∧
    (let s := (withRadio (rcu .awake none none)).modPart fun p => { p with power := { p.power with level := .shed } };
      s.part.power.level = .shed ∧ RcuId.rcu1 ≠ .rcu0 ∧ s.part.radio0.broken = false) := by decide +kernel

theorem test_witness_ReleaseExpiryIsDone :
    (order .release .outcomeWait).phase = .outcomeWait ∧ (order .release .outcomeWait).issuer = .holder ∧
    (order .reject .outcomeWait).order = .reject ∧
    ({ order .release .outcomeWait with issuer := .rcu } : Pending).issuer = .rcu ∧
    ((withRadio (rcu .inCall none (some (order .release .outcomeWait)))).part.radio .rcu0).slot =
      some (order .release .outcomeWait) := by decide +kernel

theorem test_witness_DialsFollowTheAccess :
    (subscribed.subscribed 118 = true ∧ some ⟨118, 0, true⟩ ∈ subscribed.operators) ∧
    (let s := withA (trying .attaching (try0 .limited .publicNumber)) (rcu .awake (some .sideA) none);
      (s.part.call .sideA).attempt = some (try0 .limited .publicNumber) ∧
      (s.part.radio .rcu0).condition = .awake ∧ (s.part.radio .rcu0).slot = none ∧ RecId.sideA ≠ .test) ∧
    (let s := withTest (trying .attaching (try0 .full .ops)) (rcu .awake (some .test) none);
      (s.part.call .test).attempt = some (try0 .full .ops)) ∧
    ({ Settings.default with opsDigits := [9] } : Settings).opsDigits ≠ [] ∧ Settings.default.opsDigits = [] := by
  decide +kernel

/-- A state in which a record waits for the outcome of an order on RCU 0. -/
def waiting (c : CallRec) (cond : Condition) (o : Order) : State :=
  withA c (rcu cond (some .sideA) (some (order o .outcomeWait)))

theorem test_witness_AcceptedAttachesDial :
    (let s := waiting (trying .attaching (try0 .full .ops)) .awake (.attach cell0.key .full);
      s.hears .rcu0 ∧ s.part.awaits .sideA .rcu0 (order (.attach cell0.key .full) .outcomeWait) ∧
      (s.part.call .sideA).state = .attaching ∧ (s.part.call .sideA).attempt = some (try0 .full .ops) ∧
      (try0 .full .ops).target = .slot 0) ∧
    (let a : Attempt := { try0 .limited .publicNumber with target := .anyCell, cell := none };
      let s := waiting (trying .attaching a) .awake .attachAny;
      s.hears .rcu0 ∧ s.part.awaits .sideA .rcu0 (order .attachAny .outcomeWait) ∧
      (s.part.call .sideA).attempt = some a ∧ a.target = .anyCell ∧
      CellReport.inRange ⟨5, 4095, 999, 2, 2⟩ = true) ∧
    ((stored entry0 running.part).slotOf cell0.key = some 0 ∧ running.part.slotOf cell0.key = none ∧
      (running.part.insertBlind Settings.default cell0 .wide .openAccess).slotOf cell0.key = some 0 ∧
      ((running.part.insertBlind Settings.default cell0 .wide .openAccess).entryAt 0).isSome = true) := by
  decide +kernel

theorem test_witness_RefusedAttachesTurnOrEnd :
    (let s := waiting (trying .attaching (try0 .full .ops)) .awake (.attach cell0.key .full);
      let q := order (.attach cell0.key .full) .outcomeWait;
      s.hears .rcu0 ∧ s.part.awaits Side.a.record .rcu0 q ∧ q.tag = (15 : Byte).toNat ∧ q.phase = .outcomeWait ∧
      (s.part.call .sideA).attempt = some (try0 .full .ops) ∧ (try0 .full .ops).cell = some cell0) ∧
    (let s := waiting (trying .attaching (try0 .limited .publicNumber)) .awake .attachAny;
      s.hears .rcu0 ∧ s.part.awaits .sideA .rcu0 (order .attachAny .outcomeWait) ∧
      (try0 .limited .publicNumber).access = .limited) ∧
    (let q := order (.attach cell0.key .full) .outcomeWait;
      let s := withTest (trying .attaching (try0 .full .ops)) (rcu .awake (some .test) (some q));
      s.hears .rcu0 ∧ s.part.awaits .test .rcu0 q ∧ (s.part.call .test).state = .attaching) := by decide +kernel

theorem test_witness_AnsweredCallsAnnounce :
    (let s := waiting (trying .dialling (try0 .full .ops)) .awake (.dial [1, 1, 2]);
      s.hears .rcu0 ∧ s.part.awaits .sideA .rcu0 (order (.dial [1, 1, 2]) .outcomeWait) ∧
      (s.part.call .sideA).state = .dialling ∧ (s.part.call .sideA).attempt = some (try0 .full .ops) ∧
      (s.part.radio .rcu0).condition = .awake) ∧
    (let s := withA (trying .ringing (try0 .full .ops))
        { rcu .inCall (some .sideA) none with answerTimer := some 0 };
      s.hears .rcu0 ∧ (s.part.radio .rcu0).condition = .inCall ∧
      (s.part.radio .rcu0).answerTimer.isSome = true ∧ (s.part.call .sideA).state = .ringing) := by decide +kernel

theorem test_witness_FailedDialsTurnOrEndTheTry :
    (let p := (withA (trying .dialling { try0 .full .ops with opsFailed := true }) (rcu .awake (some .sideA) none)).part;
      (Reaction.dialPublic .sideA).enabled p = true ∧ p.callRcu .sideA = some .rcu0 ∧
      (p.radio .rcu0).condition = .awake ∧ (p.radio .rcu0).slot = none ∧
      (p.call .sideA).attempt = some { try0 .full .ops with opsFailed := true }) ∧
    (let s := waiting (trying .dialling (try0 .full .ops)) .awake (.dial [9]);
      s.hears .rcu0 ∧ (s.part.radio .rcu0).holder = some RecId.sideA.holder ∧
      s.part.awaits .sideA .rcu0 (order (.dial [9]) .outcomeWait) ∧ (try0 .full .ops).destination = .ops) ∧
    (let q := order (.dial [9]) .outcomeWait;
      let s := withTest (trying .dialling (try0 .full .ops)) (rcu .awake (some .test) (some q));
      s.hears .rcu0 ∧ s.part.awaits .test .rcu0 q ∧ (s.part.call .test).state = .dialling) ∧
    (let s := waiting (trying .dialling (try0 .limited .publicNumber)) .awake (.dial [1]);
      s.hears .rcu0 ∧ s.part.awaits .sideA .rcu0 (order (.dial [1]) .outcomeWait) ∧
      (order (.dial [1]) .outcomeWait).phase = .outcomeWait ∧
      (try0 .limited .publicNumber).destination = .publicNumber) ∧
    (let s := withA (trying .ringing (try0 .full .ops))
        { rcu .inCall (some .sideA) none with answerTimer := some 0 };
      s.hears .rcu0 ∧ (s.part.call .sideA).state = .ringing ∧ (s.part.radio .rcu0).answerTimer.isSome = true) ∧
    (let s := waiting (trying .dialling { try0 .full .ops with opsFailed := true }) .inCall .release;
      s.hears .rcu0 ∧ s.part.awaits .sideA .rcu0 (order .release .outcomeWait) ∧
      (s.part.call .sideA).state = .dialling) := by decide +kernel

theorem test_witness_ConnectionClosesTheVoicePath :
    (try0 .full .ops).cell = some cell0 ∧
    ((withRadio (rcu .inCall (some .sideA) none)).part.radio .rcu0).condition = .inCall := by decide +kernel

theorem test_witness_NotesAndAnswersConnect :
    (let s := waiting (trying .announcing (try0 .full .ops)) .inCall (.sendNote note0);
      s.hears .rcu0 ∧ s.part.awaits Side.a.record .rcu0 (order (.sendNote note0) .outcomeWait) ∧
      (order (.sendNote note0) .outcomeWait).phase = .outcomeWait ∧
      (s.part.call .sideA).state = .announcing ∧ (s.part.call .sideA).attempt = some (try0 .full .ops)) ∧
    (let q := order (.sendNote note0) .outcomeWait;
      let s := withTest (trying .announcing (try0 .full .ops)) (rcu .inCall (some .test) (some q));
      s.hears .rcu0 ∧ s.part.awaits .test .rcu0 q ∧ (s.part.call .test).state = .announcing) ∧
    (let s := waiting { record .alertingIn with pagedCell := some cell0 } .awake .answer;
      s.hears .rcu0 ∧ s.part.awaits Side.a.record .rcu0 (order .answer .outcomeWait) ∧
      (s.part.call .sideA).state = .alertingIn ∧ (s.part.call .sideA).pagedCell = some cell0 ∧
      (s.part.radio .rcu0).condition = .awake) := by decide +kernel

theorem test_witness_DropsStartARegain :
    (trying .connected (try0 .full .ops)).state = .connected ∧
    (trying .connected (try0 .full .ops)).attempt.bind (·.cell) = some cell0 ∧
    (stored entry0 running.part).slotOf cell0.key = some 0 ∧
    (stored entry0 running.part).entryAt 0 = some entry0 ∧ entry0.age ≠ 15 ∧
    ({ stored { entry0 with level := 0 } running.part with stack := [cell0] }.regainPlan Settings.default
      (some cell0.key)) = [⟨0, 0⟩] ∧
    ({ stored entry0 running.part with stack := [cell0] }.regainPlan Settings.default none) = [⟨0, 80⟩] := by
  decide +kernel

theorem test_witness_LossesReachTheRecord :
    (∀ st ∈ [RecState.ringing, .announcing, .connected, .seeking],
      let s := withA (trying st (try0 .full .ops)) (rcu .inCall (some .sideA) none);
      s.hears .rcu0 ∧ (s.part.radio .rcu0).condition = .inCall ∧
      (s.part.radio .rcu0).holder = some Side.a.record.holder ∧ (s.part.radio .rcu0).slot = none ∧
      (s.part.call .sideA).state = st) ∧
    (let s := waiting (trying .announcing (try0 .full .ops)) .inCall (.sendNote note0);
      s.hears .rcu0 ∧ (s.part.radio .rcu0).slot = some (order (.sendNote note0) .outcomeWait) ∧
      (order (.sendNote note0) .outcomeWait).phase ≠ .retired ∧ (s.part.call .sideA).state = .announcing) ∧
    (let q := cancelled .ackWait (.sendNote note0);
      let s := withA (record .connected) (rcu .inCall (some .sideA) (some q));
      s.hears .rcu0 ∧ (s.part.radio .rcu0).slot = some q ∧ q.phase = .retired) ∧
    (let q : Pending := { order .release .outcomeWait with issuer := .rcu };
      let s := withRadio (rcu .inCall none (some q));
      s.hears .rcu0 ∧ (s.part.radio .rcu0).slot = some q ∧ q.order = .release ∧ q.issuer = .rcu ∧
      q.phase ≠ .retired ∧ ((s.part.radio .rcu0).holder).bind Holder.record = none) ∧
    (∀ st ∈ [RecState.ringing, .announcing, .clearing],
      let s := withTest (trying st (try0 .full .ops)) (rcu .inCall (some .test) none);
      s.hears .rcu0 ∧ (s.part.radio .rcu0).holder = some .test ∧ s.part.test.state = st) ∧
    (let s := waiting (record .clearing) .inCall .release;
      s.hears .rcu0 ∧ (s.part.radio .rcu0).slot = some (order .release .outcomeWait) ∧
      (s.part.call .sideA).state ≠ .dialling) ∧
    (∀ a ∈ [try0 .limited .publicNumber, { try0 .full .ops with opsFailed := true }],
      let s := waiting (trying .dialling a) .inCall .release;
      s.hears .rcu0 ∧ (s.part.radio .rcu0).slot = some (order .release .outcomeWait) ∧
      (s.part.call .sideA).state = .dialling ∧ (s.part.call .sideA).attempt = some a) := by decide +kernel

theorem test_witness_PanelCommandsActOnTheRecord :
    (∀ st ∈ [RecState.idle, .queued, .seeking, .attaching, .dialling, .ringing, .announcing, .connected,
        .clearing, .alertingIn],
      let s := opened Side.a.port (withA (record st) (rcu .awake (some .sideA) none));
      s.atStart Side.a.port ∧ (s.part.call Side.a.record).state = st ∧ s.part.callRcu .sideA = some .rcu0) ∧
    ((0 : Byte) ≠ 1 ∧ (4 : Byte) ≠ 3) := by decide +kernel

theorem test_witness_CallBacksRing :
    (let s := opened .panelA (withA { record .alertingIn with ringTimer := some 0 } (rcu .awake (some .sideA) none));
      s.part.callRcu Side.a.record = some .rcu0 ∧ s.atStart Side.a.port ∧ s.isHeld = false ∧
      (s.part.call .sideA).state = .alertingIn ∧ (s.part.call .sideA).answerInHand = false ∧
      (s.part.call .sideA).ringTimer.isSome = true) ∧
    (let s := opened .panelA (withA (record .alertingIn) (rcu .awake none none));
      s.part.callRcu Side.a.record = none ∧ s.atStart Side.a.port ∧ (s.part.call .sideA).answerInHand = false) ∧
    (let s := opened .panelA (withA { record .alertingIn with answerInHand := true } (rcu .awake (some .sideA) none));
      s.atStart Side.a.port ∧ (s.part.call .sideA).answerInHand = true) ∧
    (∀ st ∈ [RecState.idle, .queued], let s := opened .panelA (withA (record st) (rcu .awake none none));
      s.atStart Side.a.port ∧ (s.part.call .sideA).state ≠ .alertingIn) := by decide +kernel

/-- A record whose call is over, on a part whose stack and table hold its cell, under settings that know its
carrier. -/
def cleared (c : CallRec) (w : Option Window) : Part :=
  { stored entry0 (withA c (rcu .awake (some .sideA) none)).part with stack := [cell0], window := w }

def sweepOf (k : RecId) : Sweep := Sweep.create (.call k)

/-- An RCU whose sweep has begun an item at the instant at which the one before it ended. -/
def freshItem (h : Holder) (k : SweepKind) : Radio :=
  { rcu .awake (some h) (some (order (.measure cell0.key) .ackWait)) with
    sweep := some { Sweep.create k with phase := .measuring, endedNow := true }, tagCounter := 1, txQueue := [[]] }

theorem test_witness_ClearingEndsTheWorkAndTheHold :
    (let p := (withA (trying .clearing (try0 .full .ops)) (rcu .inCall (some .sideA) none)).part;
      (Reaction.clearingRelease .sideA).enabled p = true ∧ (Reaction.leaveClearing .sideA).enabled p = false ∧
      p.callRcu .sideA = some .rcu0 ∧ (p.radio .rcu0).condition = .inCall ∧ (p.radio .rcu0).slot = none) ∧
    (let p := (withA (record .clearing) (rcu .awake (some .sideA) none)).part;
      (Reaction.leaveClearing .sideA).enabled p = true ∧ (Reaction.clearingRelease .sideA).enabled p = false) ∧
    (withA (record .clearing) Radio.held).part.callRcu .sideA = none ∧
    (let p := (withA (record .seeking) (freshItem .sideA (.call .sideA))).part;
      p.callRcu .sideA = some .rcu0 ∧ (p.radio .rcu0).begunNow = true ∧ (p.radio .rcu0).condition = .awake) ∧
    (let x : Radio := { freshItem .sideA (.call .sideA) with sweep := some { sweepOf .sideA with phase := .measuring } };
      x.begunNow = false ∧ x.slot = some (order (.measure cell0.key) .ackWait) ∧
      (order (.measure cell0.key) .ackWait).issuer = .holder) ∧
    (let x : Radio := { rcu .awake (some .sideA) none with sweep := some (sweepOf .sideA) };
      (withA (record .seeking) x).part.callRcu .sideA = some .rcu0 ∧ x.sweep = some (sweepOf .sideA) ∧
      (sweepOf .sideA).kind = .call .sideA) ∧
    (let s := waiting (record .dialling) .inCall .release;
      s.part.callRcu .sideA = some .rcu0 ∧ (s.part.radio .rcu0).sweep = none ∧
      (s.part.radio .rcu0).slot = some (order .release .outcomeWait)) ∧
    (let s := waiting (record .dialling) .awake (.dial [1]);
      s.part.callRcu .sideA = some .rcu0 ∧ (order (.dial [1]) .outcomeWait).order ≠ .release ∧
      (order (.dial [1]) .outcomeWait).order ≠ .reject) ∧
    (let s := withA (record .connected) (rcu .inCall (some .sideA) none);
      s.part.callRcu .sideA = some .rcu0 ∧ (s.part.radio .rcu0).slot = none ∧
      (s.part.radio .rcu0).condition = .inCall) ∧
    (let p := cleared { record .clearing with fullConnection := true } none;
      p.callRcu .sideA = some .rcu0 ∧ p.waits .window = false ∧ (p.call .sideA).fullConnection = true ∧
      0 < subscribed.callbackWindow ∧ p.power.level ≠ .shed ∧ (p.campChoice subscribed).stack ≠ [] ∧
      p.window = none ∧ p.rcuOf .window = none) ∧
    (let p := (cleared { record .clearing with fullConnection := true } (some (window0 .camped))).setRadio .rcu1
        (rcu .camped (some .window) none);
      p.callRcu .sideA = some .rcu0 ∧ (p.campChoice subscribed).stack ≠ [] ∧
      p.rcuOf .window = some RcuId.rcu0.other ∧ (p.radio .rcu0).holder ≠ some .window) ∧
    (let p := cleared { record .clearing with ringTimedOut := true } (some (window0 (.lent .a)));
      p.callRcu .sideA = some .rcu0 ∧ (p.call .sideA).fullConnection = false ∧
      (p.call .sideA).ringTimedOut = true ∧ p.rcuOf .window = none) ∧
    (let p := cleared (record .clearing) (some (window0 (.lent .a)));
      p.callRcu .sideA = some .rcu0 ∧ (p.call .sideA).ringTimedOut = false ∧ p.waits .window = false) ∧
    (let p := cleared (record .clearing) (some (window0 (.lent .b)));
      p.callRcu .sideA = some .rcu0 ∧ (window0 (.lent .b)).state ≠ .lent .a) := by decide +kernel

theorem test_witness_WindowsCampAndRing :
    (let p := (inWindow (window0 .camping) (withRadio (rcu .awake (some .window) none))).part;
      Reaction.camp.enabled p = true ∧ p.window = some (window0 .camping) ∧ p.rcuOf .window = some .rcu0 ∧
      (p.radio .rcu0).condition = .awake ∧ (p.radio .rcu0).slot = none) ∧
    (let s := inWindow (window0 .camping) (withRadio (rcu .awake (some .window) (some (order (.camp cell0) .outcomeWait))));
      s.hears .rcu0 ∧ s.part.window = some (window0 .camping) ∧ (s.part.radio .rcu0).holder = some .window ∧
      (s.part.radio .rcu0).slot = some (order (.camp cell0) .outcomeWait) ∧
      (s.part.radio .rcu0).condition = .awake) ∧
    (let s := inWindow (window0 .camped) (withRadio (rcu .camped (some .window) none));
      s.hears .rcu0 ∧ (s.part.radio .rcu0).condition = .camped ∧ (s.part.call .sideA).state = .idle ∧
      s.part.rcuOf .sideA = none ∧ s.part.waits .sideA = false) ∧
    (let s := inWindow (window0 .camped) (withA (record .queued) (rcu .camped (some .window) none));
      s.hears .rcu0 ∧ (s.part.call (window0 .camped).side.record).state ≠ .idle ∧
      (s.part.call Side.b.record).state = .idle ∧ s.part.rcuOf .sideB = none) ∧
    (let s := inWindow (window0 .camped) (put (((withA (record .queued) (rcu .camped (some .window) none)).part).setCall
        .sideB (record .seeking)));
      s.hears .rcu0 ∧ (s.part.call .sideA).state ≠ .idle ∧ (s.part.call .sideB).state ≠ .idle) ∧
    (let s := inWindow (window0 (.lent .b)) running;
      s.isHeld = false ∧ s.part.window = some (window0 (.lent .b)) ∧ (window0 (.lent .b)).state = .lent .b) ∧
    (∀ st ∈ [WindowState.camping, .camped],
      (let s := inWindow (window0 st) (withRadio (rcu .awake (some .window) none));
        s.isHeld = false ∧ s.part.window = some (window0 st) ∧ s.part.rcuOf .window = some .rcu0) ∧
      (inWindow (window0 st) running).part.rcuOf .window = none) ∧
    (let q := (cleared (record .idle) (some (window0 .camped))).campChoice subscribed;
      q.stack = [cell0] ∧ q.window = some (window0 .camped)) ∧
    ((cleared (record .idle) none).campChoice Settings.default).stack = [] ∧
    (((cleared (record .idle) (some { window0 .camped with campKey := ⟨⟨5, 4095⟩, 1⟩ })).dropStackKey
        ⟨5, 4095⟩).campChoice subscribed).stack.head? = some cell0 ∧
    (((cleared (record .idle) (some (window0 .camped))).dropStackKey cell0.key).campChoice subscribed).stack = [] := by
  decide +kernel

theorem test_witness_RecordTimers :
    (let s := withA { record .seeking with step := .paused, pauseTimer := some 0, regainTimer := some 0 } Radio.held;
      s.isHeld = false ∧ (s.part.call .sideA).state = .seeking ∧ (s.part.call .sideA).step = .paused ∧
      (s.part.call .sideA).pauseTimer.isSome = true ∧ (s.part.call .sideA).regainTimer.isSome = true ∧
      s.part.secondTimer.isSome = true ∧ (s.part.call .sideB).state = .idle) := by decide +kernel

theorem test_witness_SeekersTryTheirPlan :
    Reaction.testNoRadio.enabled ((withTest (record .queued) (rcu .faulted none none)).part.setRadio .rcu1
      (rcu .disabled none none)) = true ∧
    (let c : CallRec := { record .seeking with plan := [⟨1, 0⟩, ⟨0, 80⟩] };
      let p := stored entry0 (withA c (rcu .awake (some .sideA) none)).part;
      p.callRcu Side.a.record = some .rcu0 ∧ (p.radio .rcu0).isReady = true ∧ c.plan[1]? = some ⟨0, 80⟩ ∧
      p.entryAt 0 = some entry0 ∧ entry0.eligible Settings.default = true ∧ p.entryAt 1 = none ∧
      c.rounds = 0 ∧ p.eligibleCount Settings.default < 2) ∧
    (let p := stored entry0 { running.part with
        table := running.part.table.set 23 (some { entry0 with key := ⟨5, 4095⟩ }) };
      2 ≤ p.eligibleCount Settings.default) ∧
    ((record .seeking).plan = [] ∧ (record .seeking).blindTried = false) ∧
    (let c : CallRec := { record .seeking with blindTried := true, rounds := 2 };
      (c.plan = [] → c.blindTried = true) ∧ c.plan.drop c.cursor = []) ∧
    (let c : CallRec := { record .seeking with plan := [⟨0, 80⟩, ⟨1, 80⟩], dialled := true };
      let p := stored { entry0 with carrier := 7 } (withTest c (rcu .awake (some .test) none)).part;
      let q := { p with table := p.table.set 1 (some entry0) };
      q.callRcu .test = some .rcu0 ∧ (q.radio .rcu0).isReady = true ∧
      (∃ e, q.entryAt 0 = some e ∧ e.accessFor subscribed ≠ .full) ∧
      q.entryAt 1 = some entry0 ∧ entry0.eligible subscribed = true ∧ entry0.accessFor subscribed = .full) ∧
    (let p := (withTest (record .seeking) (rcu .awake (some .test) none)).part;
      p.callRcu .test = some .rcu0 ∧ (p.call .test).plan.drop (p.call .test).cursor = [] ∧
      (Reaction.seekStart .test).enabled p = true) := by
  refine ⟨by decide +kernel, by decide +kernel, by decide +kernel, by decide +kernel, by decide +kernel, ?_,
    by decide +kernel⟩
  refine ⟨by decide +kernel, by decide +kernel, ⟨_, rfl, by decide +kernel⟩, by decide +kernel, by decide +kernel,
    by decide +kernel⟩

theorem test_witness_ConversionsRoundToTheLadder : (1 ≤ 63 ∧ 63 ≤ 63) ∧ (20000 : Nat) ≤ 20000 ∧
    (2500000 : Nat) < 2500001 ∧ ladderStep 63 = 2500000 ∧ ladderStep 1 = 20000 := by decide

def converting (c : Conversion) (x : Radio) : State :=
  (withRadio x).modPart fun p => { p with converter := { Converter.cleared with current := some c } }

theorem test_witness_ConverterServesInOrder :
    (let c : Converter := { queue := [], current := some (Conversion.begin .battery 0), deferred := none };
      Converter.cleared.current = none ∧ c.current = some (Conversion.begin .battery 0) ∧
      Source.rcu .rcu0 ∉ c.queue ∧ (Conversion.begin .battery 0).source ≠ .rcu .rcu0 ∧
      (Conversion.begin .battery 0).withdrawn = false) ∧
    (let cur : Conversion := { Conversion.begin .battery 0 with withdrawn := true };
      cur.source = .battery ∧ cur.withdrawn = true) ∧
    (let x : Radio := { rcu .awake (some .survey) none with measurement := { Measurement.cleared with phase := .sampling } };
      let s := converting (Conversion.begin (.rcu .rcu0) 0) x;
      s.isHeld = false ∧ s.part.converter.current = some (Conversion.begin (.rcu .rcu0) 0) ∧
      (s.part.radio .rcu0).measurement.phase = .sampling) ∧
    (let x : Radio := { rcu .inCall (some .sideA) none with
        measurement := { Measurement.cleared with requester := some .callManager, key := some cell0.key,
                                                  count := some 32, gate := 32 } };
      let s := converting (Conversion.begin (.rcu .rcu0) 0) x;
      s.isHeld = false ∧ (s.part.radio .rcu0).measurement.phase = .none ∧
      (s.part.radio .rcu0).measurement.requester = some .callManager ∧
      (s.part.radio .rcu0).holder = some RecId.sideA.holder ∧
      (s.part.radio .rcu0).measurement.key = some cell0.key ∧
      (s.part.radio .rcu0).measurement.count = some 32) ∧
    ((converting (Conversion.begin (.rcu .rcu0) 0) (rcu .awake none none)).part.radio .rcu0).measurement =
      Measurement.cleared := by decide +kernel

theorem test_witness_GatesCountPulses :
    (∀ m ∈ [GateMode.idle, .armed, .opened, .continuous],
      ((withRadio { Radio.held with gate := { GateCounter.cleared with mode := m } }).part.radio .rcu0).gate.mode = m) ∧
    (let s := withRadio { rcu .awake (some .survey) none with
        gate := { GateCounter.cleared with mode := .opened, length := 8, ticksLeft := 1 },
        measurement := { Measurement.cleared with phase := .sampling, gate := 8 } };
      s.isHeld = false ∧ (s.part.radio .rcu0).gate.mode = .opened ∧
      (s.part.radio .rcu0).measurement.phase = .sampling) ∧ (0 : Nat) < 8 ∧ (8 : Nat) ≤ 9 := by decide +kernel

def sweeping (k : SweepKind) (ph : ItemPhase) (o : Order) : State :=
  withRadio { rcu .awake (some .survey) (some (order o .outcomeWait)) with
    sweep := some { Sweep.create k with phase := ph, item := some ⟨cell0.key, 8⟩, pair := some (63, 100) },
    measurement := { Measurement.cleared with phase := .settling, key := some cell0.key, gate := 8,
                                              requester := some .sweep } }

/-- A FULL sweep on RCU 0 whose LISTEN waits for its outcome, with an item left in the list and RCU 1 DISABLED. -/
def oneItemLeft : State :=
  let listening := ((sweeping .full .listening (.listen cell0.key)).part.modRadio .rcu0 fun x =>
    { x with measurement := Measurement.cleared }).setRadio .rcu1 (rcu .disabled none none)
  { opened .panelA (put listening) with settings := listed }

/-- R49, R53: the next item begins at the outcome's event. A CALL of that instant preempts the sweep with the item not
begun: no CANCEL goes out, and the caller's own sweep sends the one frame. -/
theorem test_nextItemNotBegun : (match exec (.notHeard .rcu0 15) oneItemLeft with
    | .next t => t.part.radio0.txQueue.length == 1 && t.part.radio0.begunNow &&
      (match exec (.call .a) t with
        | .next u => u.part.radio0.holder == some .sideA && u.part.radio0.txQueue == t.part.radio0.txQueue &&
          u.part.radio0.slot.any (fun q => q.cancel.isNone) && u.part.survey.state == .idle
        | _ => false)
    | _ => false) = true := by decide +kernel

/-- R53, R60: once time has passed, the item has begun, and its MEASURE is cancelled. -/
theorem test_nextItemBegun : (match exec (.notHeard .rcu0 15) oneItemLeft with
    | .next t => (match exec (.call .a) t.idle with
        | .next u => u.part.radio0.holder == some .sideA && u.part.radio0.slot.any (fun q => q.cancel.isSome)
        | _ => false)
    | _ => false) = true := by decide +kernel

/-- R57, R53: the acknowledgement limit of that item's MEASURE cannot expire at its instant. The tag and the frame stay
used. -/
theorem test_measureUnacknowledged : (match exec (.notHeard .rcu0 15) oneItemLeft with
    | .next t => t.part.radio0.begunNow && (match exec (.ackLimitExpiry .rcu0) t with
      | .next u => u.part.radio0.condition == .faulted && u.part.radio0.txQueue == t.part.radio0.txQueue &&
          u.part.radio0.tagCounter == t.part.radio0.tagCounter
      | _ => false)
    | _ => false) = true := by decide +kernel

/-- R53: a READY at that instant is a fault that finds the item not begun. -/
theorem test_readyMeetsTheOutcome : (match exec (.notHeard .rcu0 15) oneItemLeft with
    | .next t => (match exec (.ready .rcu0) t with
      | .next u => u.part.radio0.condition == .faulted && u.part.radio0.txQueue == [] &&
          u.part.radio0.tagCounter == oneItemLeft.part.radio0.tagCounter
      | _ => false)
    | _ => false) = true := by decide +kernel

theorem test_witness_SettledStartsTheSampling :
    (let s := sweeping .full .measuring (.measure cell0.key);
      let q := order (.measure cell0.key) .outcomeWait;
      s.hears .rcu0 ∧ (s.part.radio .rcu0).slot = some q ∧ q.issuer = .holder ∧ q.phase ≠ .retired ∧
      q.tag = (15 : Byte).toNat ∧ (s.part.radio .rcu0).measurement.phase = .settling) ∧
    ((withRadio { Radio.held with measurement := { Measurement.cleared with
        phase := .sampling, key := some cell0.key, code := some 63, count := some 9, gate := 8 } }).part.radio
      .rcu0).measurement.code = some 63 ∧
    Measurement.cleared.code = none := by decide +kernel

theorem test_witness_SweepsFeedTheTable :
    (let x : Radio := { rcu .awake (some .sideA) (some (order (.listen cell0.key) .outcomeWait)) with
        sweep := some { sweepOf .sideA with phase := .listening, item := some ⟨cell0.key, 8⟩, pair := some (63, 100) } };
      let s := withA { record .seeking with step := .sweeping } x;
      s.hears .rcu0 ∧ (s.part.radio .rcu0).slot = some (order (.listen cell0.key) .outcomeWait) ∧
      (s.part.radio .rcu0).sweep = some { sweepOf .sideA with
        phase := .listening, item := some ⟨cell0.key, 8⟩, pair := some (63, 100) } ∧
      (sweepOf .sideA).kind ≠ .refresh ∧ s.part.slotOf cell0.key = none) ∧
    ({ sweepOf .sideA with phase := .measuring } : Sweep).phase = .measuring ∧
    (let s := sweeping .full .listening (.listen cell0.key);
      let q := order (.listen cell0.key) .outcomeWait;
      s.hears .rcu0 ∧ (s.part.radio .rcu0).slot = some q ∧ q.phase = .outcomeWait ∧
      ((s.part.radio .rcu0).sweep.map (·.phase)) = some .listening ∧
      carrierInRange 999 = true ∧ codeInRange 0 = true) ∧
    (stored entry0 running.part).slotOf cell0.key = some 0 ∧ running.part.slotOf cell0.key = none ∧
    7 < Settings.default.levelFloor ∧ Settings.default.levelFloor ≤ 8 ∧
    (let p := stored entry0 (withA { record .seeking with step := .sweeping }
        { rcu .awake (some .sideA) none with sweep := some { sweepOf .sideA with yields := 1 } }).part;
      p.entryOf cell0.key = some entry0 ∧ entry0.eligible Settings.default = true ∧
      (p.call .sideA).state = .seeking ∧ (p.call .sideA).step = .sweeping ∧
      p.nextItem Settings.default { sweepOf .sideA with yields := 1 } = none ∧
      p.nextItem listed (sweepOf .sideA) = some (63, ⟨⟨5, 4095⟩, 32⟩)) ∧
    (let p := stored entry0 (withRadio { rcu .awake (some .survey) none with sweep := some (Sweep.create .refresh) }).part;
      (p.radio .rcu0).sweep = some (Sweep.create .refresh) ∧ (p.radio .rcu0).condition = .awake ∧
      (p.radio .rcu0).measurement.phase = .none ∧ (Reaction.sweepItem .rcu0).enabled p = true ∧
      p.nextItem listed (Sweep.create .refresh) = some (0, ⟨cell0.key, 8⟩) ∧
      p.nextItem listed { Sweep.create .refresh with cursor := some 0 } = none ∧
      p.nextItem listed { Sweep.create .full with cursor := some 62 } = some (63, ⟨⟨5, 4095⟩, 32⟩) ∧
      p.nextItem listed { Sweep.create .full with cursor := some 63 } = none) ∧
    (freshItem .survey .full).begunNow = true := by decide +kernel

theorem test_witness_FadeTest : (24 : Nat) < 25 ∧ (25 : Nat) ≤ 25 ∧ (record .connected).fadeCount = 0 ∧
    (record .connected).fading = false ∧ ({ record .connected with fading := true } : CallRec).fading = true ∧
    (let p := (withA (record .connected) (rcu .inCall (some .sideA) none)).part;
      (p.call .sideA).state = .connected ∧ (stored entry0 p).slotOf cell0.key = some 0 ∧
      (stored entry0 p).call .sideA = p.call .sideA ∧ p.slotOf cell0.key = none) ∧
    (record .idle).state ≠ .connected := by decide +kernel

theorem test_witness_EligibilityHasThreeTests :
    ({ entry0 with barring := .normalBarred } : Entry).barring = .normalBarred := by decide

theorem test_witness_ScoresFollowTheFormula : subscribed.operatorFor 118 = some ⟨118, 0, true⟩ ∧
    subscribed.operatorFor 999 = none ∧ entry0.kind = .narrow ∧ entry0.eligible subscribed = true ∧
    ({ entry0 with failures := 7 } : Entry).eligible subscribed = false := by decide +kernel

theorem test_witness_NewEntriesTakeTheirSlot :
    (let p := stored entry0 running.part;
      p.table[1]? = some none ∧ p.entryAt 0 = some entry0) ∧
    (let p := { running.part with table := (List.range 24).map fun n => some { entry0 with key := ⟨0, n⟩ } };
      (∀ i, i < p.table.length → (p.entryAt i).isSome = true) ∧ (p.entryAt 23).isSome = true ∧
      p.pinned 23 ⟨0, 23⟩ = false) := by decide +kernel

theorem test_witness_AgingAndClearingSpareThePinned :
    running.part.ageTimer.isSome = true ∧
    (stored { entry0 with age := 14 } running.part).entryAt 0 = some { entry0 with age := 14 } ∧
    (stored { entry0 with age := 13 } running.part).entryAt 0 = some { entry0 with age := 13 } ∧
    (stored entry0 { running.part with stack := [cell0] }).pinned 0 cell0.key = true ∧
    running.part.pinned 0 cell0.key = false ∧ running.part.entryAt 0 = none := by decide +kernel

theorem test_witness_SelectFramesTransactions : running.isHeld = false ∧ (running.tx .cabinet).state = .deselected ∧
    State.reset.isHeld = true ∧ ((opened .cabinet running).tx .cabinet).state ≠ .deselected ∧
    (opened .cabinet running).atStart .cabinet ∧ (18 : Byte).toNat < 128 ∧
    portWriteBytes .cabinet (18 : Byte).toNat = some 22 ∧ (List.replicate 21 (0 : Byte)).length < 22 ∧
    PortId.cabinet.headers.contains 0x94 = false ∧ PortId.panelA.headers.contains 0x02 = false := by decide +kernel

theorem test_witness_PanelReads : (opened Side.b.port running).atStart Side.b.port := by decide +kernel

/-- The hypothesis of CabinetReads, SettingWritesClamp, ThresholdAndSiteWrites, TableWrites and
CabinetCommandsAct. -/
theorem test_witness_cabinetPort : (opened .cabinet running).atStart .cabinet ∧
    (opened .cabinet running).part.entryAt (opened .cabinet running).cabinet.tableSelect = none ∧
    (let s := opened .cabinet (put (stored entry0 running.part));
      s.atStart .cabinet ∧ s.part.entryAt s.cabinet.tableSelect = some entry0) := by decide +kernel

theorem test_witness_TableWrites : (List.replicate 20 (9 : Byte)).length = 20 ∧ (15 : Byte).toNat ≤ 15 ∧
    15 < (16 : Byte).toNat ∧ (999 : BitVec 16).toNat ≤ 999 ∧ 999 < (1000 : BitVec 16).toNat ∧
    (63 : Byte).toNat ≤ 63 ∧ 63 < (64 : Byte).toNat ∧ (4095 : BitVec 16).toNat ≤ 4095 ∧
    4095 < (4096 : BitVec 16).toNat ∧
    (∀ st ∈ [SurveyState.notConfigured, .idle, .waiting, .sweeping, .ending], ∀ l ∈ [PowerLevel.normal, .shed],
      let s := opened .cabinet (running.modPart fun p =>
        { p with survey := { p.survey with state := st }, power := { p.power with level := l } });
      s.atStart .cabinet ∧ s.part.survey.state = st ∧ s.part.power.level = l ∧ s.settings.listHasItem = false ∧
      (match exec (.channel 63 1 5 4095 32) s with
        | .next t => t.settings.listHasItem
        | _ => false) = true ∧
      (match exec (.channel 63 0 0 0 0) { s with settings := listed } with
        | .next t => !t.settings.listHasItem
        | _ => false) = true) ∧ listed.listHasItem = true := by decide +kernel

theorem test_witness_CabinetCommandsAct :
    (let s := opened .cabinet (running.modPart fun p => { p with power := { p.power with level := .shed } });
      s.atStart .cabinet ∧ s.part.power.level = .shed) ∧
    (let s := opened .cabinet (withTest (record .queued) Radio.held);
      s.atStart .cabinet ∧ s.part.power.level ≠ .shed ∧ s.part.test.state ≠ .idle) ∧
    (let s := { opened .cabinet running with settings := { Settings.default with opsDigits := [9] } };
      s.atStart .cabinet ∧ s.part.test.state = .idle ∧ s.settings.opsDigits ≠ [] ∧
      s.part.survey.state = .notConfigured) ∧
    (∀ st ∈ [SurveyState.idle, .waiting, .sweeping, .ending],
      let s := opened .cabinet (running.modPart fun p => { p with survey := { p.survey with state := st } });
      s.atStart .cabinet ∧ s.part.survey.state = st) ∧
    (rcu .disabled none none).broken = true ∧ (rcu .off none none).broken = false ∧
    (0 : Byte).toNat = 0 ∧ 1 < (2 : Byte).toNat ∧ (20 : Byte) ∉ cabinetCodes := by decide +kernel

theorem test_witness_PeriodicTimers : running.isHeld = false ∧ running.part.survey.timer.isSome = true ∧
    running.part.power.level ≠ .shed ∧ running.part.survey.state = .notConfigured ∧
    running.part.power.sampleTimer.isSome = true ∧
    (∀ st ∈ [SurveyState.idle, .waiting, .sweeping, .ending],
      (running.modPart fun p => { p with survey := { p.survey with state := st } }).part.survey.timer.isSome =
        true) := by decide +kernel

/-- The part at its entry to SHED. -/
def shed (st : SurveyState) (p : Part) : Part :=
  { p with survey := { p.survey with state := st }, power := { p.power with level := .shed } }

theorem test_witness_BatterySamplesMoveTheLevel :
    Settings.default.shedCode + 2 ≤ Settings.default.warnCode ∧
    sampleTarget Settings.default .normal 46 = some .warn ∧ sampleTarget Settings.default .normal 44 = some .shed ∧
    sampleTarget Settings.default .normal 47 = none ∧ sampleTarget Settings.default .warn 48 = some .normal ∧
    sampleTarget Settings.default .shed 46 = some .warn ∧
    ({ running.part.power with pendingTarget := some .shed } : PowerMonitor).pendingTarget = some .shed ∧
    running.part.power.pendingTarget = none ∧ running.part.power.level ≠ .shed ∧ PowerLevel.warn ≠ .shed ∧
    (∀ st ∈ [SurveyState.notConfigured, .idle, .waiting, .ending],
      (shed st running.part).power.level = .shed ∧ (shed st running.part).survey.state = st) ∧
    (let p := shed .sweeping (withRadio { rcu .waking (some .survey) none with sweep := some (Sweep.create .full) }).part;
      p.survey.state = .sweeping ∧ p.rcuOf .survey = some .rcu0 ∧
      (p.radio .rcu0).sweep = some (Sweep.create .full) ∧ (Sweep.create .full).phase = .none ∧
      (Sweep.create .full).cursor = none) ∧
    (let p := shed .sweeping (sweeping .full .measuring (.measure cell0.key)).part;
      p.rcuOf .survey = some .rcu0 ∧ (p.radio .rcu0).measurement.phase ≠ .sampling ∧
      (p.radio .rcu0).slot = some (order (.measure cell0.key) .outcomeWait)) ∧
    (let p := shed .idle (running.part.setRadio .rcu1 (rcu .awake none none));
      (Reaction.goOff .rcu1).enabled p = true ∧ (Reaction.goOff .rcu0).enabled p = false) ∧
    (let p := (withRadio { rcu .awake (some .survey) none with
        sweep := some { Sweep.create .full with state := .ending } }).part;
      (Reaction.endSweep .rcu0).enabled p = true) := by decide +kernel

theorem test_witness_ClaimsAreResolvedInOrder :
    (let p := { running.part with claims := [{ claimant := .sideA, requeued := false }] };
      Reaction.serve.enabled p = true ∧ p.grantNow = some .rcu0 ∧ Reaction.preemptWaiting.enabled p = false) ∧
    (let p := { (withRadio (rcu .awake (some .window) none)).part with
        claims := [{ claimant := .sideA, requeued := false }] };
      Reaction.preemptWaiting.enabled p = true ∧ p.victimRcu = some .rcu0) ∧
    (Reaction.releaseCall .rcu0).enabled (withRadio (rcu .inCall none none)).part = true ∧
    (let w : Waiting := { claimant := .sideA, requeued := false };
      running.part.rcuOf w.claimant = none ∧ running.part.waits w.claimant = false ∧ running.part.claims = [] ∧
      running.part.grantNow = some .rcu0 ∧ w.claimant.isPanel = true) ∧
    (let p := (running.part.setRadio .rcu0 (rcu .awake (some .sideB) none)).setRadio .rcu1
        (rcu .awake (some .survey) none);
      p.grantNow = none ∧ p.victimRcu = some .rcu1 ∧ p.rcuOf .sideA = none) ∧
    (let p := (running.part.setRadio .rcu0 (rcu .awake (some .sideB) none)).setRadio .rcu1 (rcu .disabled none none);
      p.grantNow = none ∧ p.victimRcu = none) ∧
    ([{ claimant := .sideA, requeued := true }, { claimant := .test, requeued := false }] : List Waiting).Pairwise
      (fun a b => a.rank ≤ b.rank) ∧
    ((∀ r, (running.part.radio r).grantable = true) ∧ running.part.radio0.condition = running.part.radio1.condition) ∧
    ((rcu .off none none).condition = .off ∧ (rcu .doze none none).slot = none ∧
      (rcu .doze none (some { order .doze .ackWait with issuer := .rcu })).slot ≠ none ∧
      (rcu .inCall none none).condition ≠ .off ∧ (rcu .inCall none none).condition ≠ .doze) ∧
    ((record .queued).droppedKey = none ∧
      ({ record .queued with droppedKey := some cell0.key } : CallRec).droppedKey ≠ none) ∧
    (let x : Radio := { rcu .camped (some .window) (some (order .reject .outcomeWait)) with
        measurement := { Measurement.cleared with requester := some .callManager } };
      x.condition = .camped ∧ x.measurement.requester = some .callManager ∧ x.slot = some (order .reject .outcomeWait) ∧
      (order .reject .outcomeWait).issuer = .holder ∧ (order .reject .outcomeWait).phase ≠ .retired ∧
      (cancelled .ackWait .reject).phase = .retired) ∧
    ((freshItem .survey .full).begunNow = true ∧ (freshItem .survey .full).condition = .awake ∧
      (rcu .awake (some .survey) (some (order .attachAny .ackWait))).begunNow = false) ∧
    (∀ old ∈ [Holder.survey, .test, .window],
      ((withRadio (rcu .awake (some old) (some (order .attachAny .ackWait)))).part.radio .rcu0).holder = some old ∧
      old.isPanel = false) ∧
    ({ running.part with testResult := .running }.testResult = .running ∧ running.part.testResult ≠ .running) := by
  refine ⟨by decide +kernel, by decide +kernel, by decide +kernel, by decide +kernel, by decide +kernel,
    by decide +kernel, by decide +kernel, ?_, by decide +kernel, by decide +kernel, by decide +kernel, by decide +kernel, by decide +kernel, by decide +kernel⟩
  exact ⟨fun r => by cases r <;> decide +kernel, by decide +kernel⟩

/-! ## Witnesses for the invariants -/

theorem test_witness_SettingsStayInRange : running.settings.Ok ∧ step running = .next running.idle := by
  refine ⟨?_, rfl⟩
  constructor <;> (try decide)
  · exact ⟨rfl, fun o h => by
      have := List.eq_of_mem_replicate (n := Config.operatorIndexes) h
      cases this⟩
  · intro i j a b h
    have h' : (List.replicate Config.operatorIndexes (none : Option OperatorRec))[i]? = some (some a) := h
    rw [List.getElem?_replicate] at h'
    split at h' <;> cases h'
  · exact ⟨rfl, fun o h => by
      have := List.eq_of_mem_replicate (n := Config.channelPositions) h
      cases this⟩

theorem running_radio (r : RcuId) : running.part.radio r = Radio.held.boot := by cases r <;> rfl

theorem test_witness_KeysStayUnique : running.part.Keyed ∧ step running = .next running.idle := by
  refine ⟨⟨rfl, fun i j a b h => ?_, by decide +kernel, by decide +kernel⟩, rfl⟩
  have h' : (List.replicate Config.slots (none : Option Entry))[i]?.join = some a := h
  rw [List.getElem?_replicate] at h'
  split at h' <;> cases h'

theorem test_witness_MeasuredValuesStayInRange : running.part.InRange ∧ step running = .next running.idle := by
  have booted : (Radio.held.boot).Ok :=
    ⟨fun n h => (by cases h), fun c l q h => (by cases h), by decide, by decide⟩
  refine ⟨⟨fun e h => ?_, fun c h => ?_, booted, booted, by decide +kernel, by decide +kernel⟩, rfl⟩
  · have := List.eq_of_mem_replicate (n := Config.slots) h
    cases this
  · have e : running.part.converter.current = some (Conversion.begin .battery 2000000) := rfl
    rw [e] at h; cases h; exact ⟨by decide, by decide⟩

theorem test_witness_VoicePathsFollowConnectedCalls :
    running.part.Owned ∧ step running = .next running.idle := by
  have free : ∀ r, (running.part.radio r).holder = none := fun r => by rw [running_radio]; rfl
  refine ⟨⟨fun h e => ?_, by decide +kernel, fun h r e => ?_, fun r c e => ?_, fun r _ => free r, fun d r e => ?_⟩, rfl⟩
  · have := free .rcu0; rw [show running.part.radio0.holder = none from this] at e; cases e
  · rw [free] at e; cases e
  · rw [running_radio] at e; cases e
  · cases d <;> cases e

end Sys2Proof.Tests
end

/-! # The Cell Table: the slot of a new entry, ageing and clearing

R9 and R10 turn on one fact: `ranksLower` compares lexicographically, so it is a strict order, total on different
slots, and `lowestOf` finds its least element. R19 and R21 are settled slot by slot. -/

namespace Sys2Proof.Machine

/-! ## What the slots hold -/

theorem Part.entryAt_eq_some (p : Part) (i : Nat) (e : Entry) :
    p.entryAt i = some e ↔ p.table[i]? = some (some e) := Option.join_eq_some_iff

/-- `entries` lists exactly what the slots hold. -/
theorem Part.mem_entries (p : Part) (i : Nat) (e : Entry) : (i, e) ∈ p.entries ↔ p.entryAt i = some e := by
  simp only [Part.entries, Part.entryAt_eq_some, List.mem_filterMap, Option.map_eq_some_iff]
  constructor
  · rintro ⟨⟨_, _⟩, present, _, rfl, ⟨⟩⟩
    exact List.mem_zipIdx_iff_getElem?.mp present
  · intro h
    exact ⟨(some e, i), List.mem_zipIdx_iff_getElem?.mpr h, e, rfl, rfl⟩

/-! ## The order of victims (R10) -/

theorem ranksLower_iff (g : Settings) (a b : Nat × Entry) : ranksLower g a b = true ↔
    (a.2.eligible g = false ∧ b.2.eligible g = true) ∨
    (a.2.eligible g = false ∧ b.2.eligible g = false ∧
      (b.2.age < a.2.age ∨ (b.2.age = a.2.age ∧ b.1 < a.1))) ∨
    (a.2.eligible g = true ∧ b.2.eligible g = true ∧ (a.2.score g < b.2.score g ∨
      (a.2.score g = b.2.score g ∧ (a.2.level < b.2.level ∨ (a.2.level = b.2.level ∧ b.1 < a.1))))) := by
  cases ha : a.2.eligible g <;> cases hb : b.2.eligible g <;>
    simp [ranksLower, ranksAhead, ha, hb, eq_comm (a := b.2.age), eq_comm (a := b.2.level),
      eq_comm (a := b.2.score g)]

theorem ranksLower_irrefl (g : Settings) (a : Nat × Entry) : ranksLower g a a = false := by
  rw [← Bool.not_eq_true, ranksLower_iff]
  cases a.2.eligible g <;> simp

/-- Two comparisons chain only if they agree on whether the middle entry is eligible; ages, scores, levels and slots
then compare as numbers. -/
theorem ranksLower_trans {g : Settings} {a b c : Nat × Entry} (hab : ranksLower g a b = true)
    (hbc : ranksLower g b c = true) : ranksLower g a c = true := by
  rw [ranksLower_iff] at hab hbc ⊢
  rcases hab with ⟨ha, hb⟩ | ⟨ha, hb, hab⟩ | ⟨ha, hb, hab⟩ <;>
    rcases hbc with ⟨hb', hc⟩ | ⟨hb', hc, hbc⟩ | ⟨hb', hc, hbc⟩ <;>
    simp [hb] at hb' <;> simp [ha, hc] <;> omega

/-- Of two entries in different slots, one ranks lower. -/
theorem ranksLower_total {g : Settings} {a b : Nat × Entry} (slots : a.1 ≠ b.1)
    (h : ranksLower g b a = false) : ranksLower g a b = true := by
  rw [← Bool.not_eq_true, ranksLower_iff] at h
  rw [ranksLower_iff]
  cases ha : a.2.eligible g <;> cases hb : b.2.eligible g <;> simp [ha, hb] at h ⊢ <;> omega

/-! ## The lowest of a list -/

theorem lowestOf_eq_none (g : Settings) (l : List (Nat × Entry)) : lowestOf g l = none ↔ l = [] := by
  cases l with
  | nil => simp [lowestOf]
  | cons a rest => cases hrest : lowestOf g rest <;> simp [lowestOf, hrest, ← apply_ite some]

/-- The lowest of a list is a member, and no member ranks lower. -/
theorem lowestOf_spec (g : Settings) {l : List (Nat × Entry)} {x : Nat × Entry} (h : lowestOf g l = some x) :
    x ∈ l ∧ ∀ y ∈ l, ranksLower g y x = false := by
  induction l generalizing x with
  | nil => cases h
  | cons a rest ih =>
    simp only [lowestOf] at h
    split at h
    · next hrest =>
      cases h
      simp [(lowestOf_eq_none g rest).mp hrest, ranksLower_irrefl]
    · next y hrest =>
      obtain ⟨ymem, ylow⟩ := ih hrest
      split at h
      · next lower =>
        cases h
        refine ⟨List.mem_cons_self, fun z hz => ?_⟩
        rcases List.mem_cons.mp hz with rfl | zmem
        · exact ranksLower_irrefl g z
        · exact Bool.eq_false_iff.mpr fun zlower =>
            absurd (ranksLower_trans zlower lower) (by simp [ylow z zmem])
      · next notLower =>
        cases h
        refine ⟨List.mem_cons_of_mem a ymem, fun z hz => ?_⟩
        rcases List.mem_cons.mp hz with rfl | zmem
        · simpa using notLower
        · exact ylow z zmem

/-! ## The slot of a new entry -/

theorem Part.table_insertNew_of_slot {p : Part} {g : Settings} {i : Nat} (h : p.slotForNew g = some i)
    (e : Entry) : (p.insertNew g e).table = p.table.set i (some e) := by
  simp [Part.insertNew, h]

/-- R9: the first empty slot is taken. -/
theorem Part.slotForNew_of_empty {p : Part} {i : Nat} (g : Settings) (empty : p.table[i]? = some none)
    (below : ∀ j, j < i → ∃ f, p.entryAt j = some f) : p.slotForNew g = some i := by
  have found : p.table.findIdx? (·.isNone) = some i := by
    obtain ⟨inRange, atI⟩ := List.getElem?_eq_some_iff.mp empty
    refine List.findIdx?_eq_some_iff_getElem.mpr ⟨inRange, by simp [atI], fun j hj => ?_⟩
    obtain ⟨f, hf⟩ := below j hj
    obtain ⟨_, atJ⟩ := List.getElem?_eq_some_iff.mp ((p.entryAt_eq_some j f).mp hf)
    simp [atJ]
  simp [Part.slotForNew, found]

/-- R10: a full table gives the victim's slot. -/
theorem Part.slotForNew_of_full {p : Part} (g : Settings)
    (full : ∀ i, i < p.table.length → ∃ f, p.entryAt i = some f) : p.slotForNew g = p.victimSlot g := by
  have noEmpty : p.table.findIdx? (·.isNone) = none := by
    refine List.findIdx?_eq_none_iff.mpr fun o ho => ?_
    obtain ⟨i, inRange, rfl⟩ := List.mem_iff_getElem.mp ho
    obtain ⟨f, hf⟩ := full i inRange
    obtain ⟨_, atI⟩ := List.getElem?_eq_some_iff.mp ((p.entryAt_eq_some i f).mp hf)
    simp [atI]
  simp [Part.slotForNew, noEmpty]

/-- R10: with an unpinned entry there is a victim, itself unpinned, and it ranks lower than every other. -/
theorem Part.victimSlot_spec {p : Part} (g : Settings)
    (unpinned : ∃ i f, p.entryAt i = some f ∧ p.pinned i f.key = false) :
    ∃ v f, p.victimSlot g = some v ∧ p.entryAt v = some f ∧ p.pinned v f.key = false ∧
      ∀ i h, p.entryAt i = some h → p.pinned i h.key = false → i ≠ v → ranksLower g (v, f) (i, h) = true := by
  have candidate : ∀ i f, (i, f) ∈ p.entries.filter (fun x => !p.pinned x.1 x.2.key) ↔
      p.entryAt i = some f ∧ p.pinned i f.key = false := by simp [Part.mem_entries]
  obtain ⟨⟨v, f⟩, lowest⟩ : ∃ x, lowestOf g (p.entries.filter fun x => !p.pinned x.1 x.2.key) = some x := by
    obtain ⟨i, f, hif⟩ := unpinned
    refine Option.ne_none_iff_exists'.mp fun hnone => ?_
    have := (candidate i f).mpr hif
    simp [(lowestOf_eq_none g _).mp hnone] at this
  obtain ⟨member, least⟩ := lowestOf_spec g lowest
  obtain ⟨present, free⟩ := (candidate v f).mp member
  refine ⟨v, f, by simp [Part.victimSlot, lowest], present, free, fun i h hi hp ne => ?_⟩
  exact ranksLower_total ne.symm (least (i, h) ((candidate i h).mpr ⟨hi, hp⟩))

/-- Settles O44: `ranksLower` is a strict order, so the victim is its one least unpinned entry. -/
theorem newEntriesTakeTheirSlot : Obligations.NewEntriesTakeTheirSlot := by
  intro g p e
  refine ⟨fun i empty below => Part.table_insertNew_of_slot (Part.slotForNew_of_empty g empty below) e,
    fun full unpinned => ?_⟩
  obtain ⟨v, f, victim, present, free, lowest⟩ := Part.victimSlot_spec g unpinned
  refine ⟨v, f, present, free, Part.table_insertNew_of_slot ((Part.slotForNew_of_full g full).trans victim) e,
    fun i h hi hp ne => ?_⟩
  exact (ranksLower_iff g (v, f) (i, h)).mp (lowest i h hi hp ne)

/-! ## Ageing and clearing, slot by slot -/

/-- R19: a slot after the tick. -/
theorem Part.entryAt_ageEntries (p : Part) (i : Nat) :
    p.ageEntries.entryAt i =
      ((p.entryAt i).map Entry.older).filter fun e => !(e.age == 15 && !p.pinned i e.key) := by
  rw [Part.ageEntries, Part.entryAt_prune]
  congr 1
  simp only [Part.entryAt, List.getElem?_map]
  cases p.table[i]? <;> rfl

theorem Part.entryAt_ageEntries_none {p : Part} {i : Nat} (h : p.entryAt i = none) :
    p.ageEntries.entryAt i = none := by simp [Part.entryAt_ageEntries, h]

theorem Part.entryAt_ageEntries_young {p : Part} {i : Nat} {e : Entry} (h : p.entryAt i = some e)
    (young : e.age < 14) : p.ageEntries.entryAt i = some { e with age := e.age + 1 } := by
  have older : e.older = { e with age := e.age + 1 } := by
    simp [Entry.older, satInc, young.trans (by decide : 14 < 15)]
  simp [Part.entryAt_ageEntries, h, older, Option.filter, young.ne]

/-- R19: what was 14 or more is at 15 after the tick, and its pin decides. -/
theorem Part.entryAt_ageEntries_old {p : Part} {i : Nat} {e : Entry} (h : p.entryAt i = some e)
    (old : e.age = 14 ∨ e.age = 15) :
    p.ageEntries.entryAt i = if p.pinned i e.key then some { e with age := 15 } else none := by
  have older : e.older = { e with age := 15 } := by
    rcases old with age | age <;> simp [Entry.older, satInc, age]
  simp [Part.entryAt_ageEntries, h, older, Option.filter]

@[simp] theorem Part.radio_ageEntries (p : Part) (r : RcuId) : p.ageEntries.radio r = p.radio r := by
  cases r <;> rfl

@[simp] theorem Part.call_ageEntries (p : Part) (k : RecId) : p.ageEntries.call k = p.call k := by
  cases k <;> rfl

@[simp] theorem Part.table_length_ageEntries (p : Part) : p.ageEntries.table.length = p.table.length := by
  simp [Part.ageEntries]

/-- R21: a slot after CLEAR_TABLE. -/
theorem Part.entryAt_clearTable (p : Part) (i : Nat) :
    p.clearTable.entryAt i = (p.entryAt i).filter fun e => p.pinned i e.key := by
  simp only [Part.entryAt, Part.clearTable, List.getElem?_mapIdx]
  cases p.table[i]? <;> rfl

@[simp] theorem Part.radio_clearTable (p : Part) (r : RcuId) : p.clearTable.radio r = p.radio r := by
  cases r <;> rfl

@[simp] theorem Part.call_clearTable (p : Part) (k : RecId) : p.clearTable.call k = p.call k := by
  cases k <;> rfl

@[simp] theorem Part.table_length_clearTable (p : Part) : p.clearTable.table.length = p.table.length := by
  simp [Part.clearTable]

theorem exec_ageTick_running {s : State} (h : s.part.ageTimer.isSome = true) :
    exec .ageTick s = .next { s with part :=
      { s.part.ageEntries with ageTimer := some (s.settings.agePeriod * 1000000) } } := by
  change Host.Outcome.next s.ageTick = _
  simp [State.ageTick, h, Config.second]

/-- Settles O45, from what the tick and CLEAR_TABLE make of a slot. -/
theorem agingAndClearingSpareThePinned : Obligations.AgingAndClearingSpareThePinned := by
  intro s i
  refine ⟨fun runs => ⟨_, exec_ageTick_running runs, rfl, rfl, s.part.radio_ageEntries, s.part.call_ageEntries, rfl,
    s.part.table_length_ageEntries, Part.entryAt_ageEntries_none, fun e => Part.entryAt_ageEntries_young,
    fun e h old pin => ?_, fun e h old pin => ?_⟩,
    rfl, s.part.table_length_clearTable, s.part.radio_clearTable, s.part.call_clearTable, fun e h => ?_⟩
  · exact (Part.entryAt_ageEntries_old h old).trans (if_pos pin)
  · exact (Part.entryAt_ageEntries_old h old).trans (if_neg (by simp [pin]))
  · simp [Part.entryAt_clearTable, h, Option.filter]

end Sys2Proof.Machine

/-! # Monitoring windows: the fade test, the entry write and the indication

R37 is an equation for each side of the limit of 25. From a fresh count, three windows below it go through the counts
1, 2 and 3, and only the third finds the count at 2. -/

namespace Sys2Proof.Machine

/-! ## The fade test (R37) -/

theorem CallRec.fadeTest_low {q : Nat} (low : q < 25) (c : CallRec) : c.fadeTest q =
    { c with fadeCount := if c.fadeCount < 3 then c.fadeCount + 1 else 3,
             fading := c.fading || decide (2 ≤ c.fadeCount) } := if_pos low

theorem CallRec.fadeTest_good {q : Nat} (good : 25 ≤ q) (c : CallRec) :
    c.fadeTest q = { c with fadeCount := 0, fading := false } := if_neg (Nat.not_lt.mpr good)

theorem CallRec.fading_fadeTest_low {q : Nat} (low : q < 25) (c : CallRec) :
    (c.fadeTest q).fading = (c.fading || decide (2 ≤ c.fadeCount)) := by rw [fadeTest_low low]

/-- Below saturation a window under the limit counts up by 1. -/
theorem CallRec.fadeCount_fadeTest_low {q : Nat} (low : q < 25) {c : CallRec} (unsaturated : c.fadeCount < 3) :
    (c.fadeTest q).fadeCount = c.fadeCount + 1 := by
  rw [fadeTest_low low]
  exact if_pos unsaturated

theorem CallRec.fading_stays_set {q : Nat} (low : q < 25) {c : CallRec} (fading : c.fading = true) :
    (c.fadeTest q).fading = true := by
  rw [fading_fadeTest_low low, fading, Bool.true_or]

/-- FADING comes with the third window in succession below the limit, and not before. -/
theorem CallRec.fading_at_third_low {q₁ q₂ q₃ : Nat} (low₁ : q₁ < 25) (low₂ : q₂ < 25) (low₃ : q₃ < 25)
    {c : CallRec} (fresh : c.fadeCount = 0) (clear : c.fading = false) :
    (c.fadeTest q₁).fading = false ∧ ((c.fadeTest q₁).fadeTest q₂).fading = false ∧
    (((c.fadeTest q₁).fadeTest q₂).fadeTest q₃).fading = true := by
  have count₁ : (c.fadeTest q₁).fadeCount = 1 := by
    rw [fadeCount_fadeTest_low low₁ (by omega), fresh]
  have count₂ : ((c.fadeTest q₁).fadeTest q₂).fadeCount = 2 := by
    rw [fadeCount_fadeTest_low low₂ (by omega), count₁]
  have clear₁ : (c.fadeTest q₁).fading = false := by
    simp [fading_fadeTest_low low₁, clear, fresh]
  have clear₂ : ((c.fadeTest q₁).fadeTest q₂).fading = false := by
    simp [fading_fadeTest_low low₂, clear₁, count₁]
  exact ⟨clear₁, clear₂, by simp [fading_fadeTest_low low₃, count₂]⟩

/-! ## The window and the carrying entry (R14, R126) -/

theorem Part.takeWindow_of_slot {p : Part} {k : RecId} {key : Key} {i : Nat} (l q : Nat)
    (connected : (p.call k).state = .connected) (slot : p.slotOf key = some i) :
    p.takeWindow k key l q = (p.modEntry i (Entry.monitored l q)).modCall k (CallRec.fadeTest q) := by
  simp [Part.takeWindow, connected, slot]

theorem Part.takeWindow_of_no_slot {p : Part} {k : RecId} {key : Key} (l q : Nat)
    (connected : (p.call k).state = .connected) (absent : p.slotOf key = none) :
    p.takeWindow k key l q = p.modCall k (CallRec.fadeTest q) := by
  simp [Part.takeWindow, connected, absent]

theorem Part.takeWindow_of_not_connected {p : Part} {k : RecId} (key : Key) (l q : Nat)
    (other : (p.call k).state ≠ .connected) : p.takeWindow k key l q = p := if_neg other

/-! ## The indication (R124) -/

/-- Reading the lines of R124 in order gives each state what the model's table gives it. -/
theorem CallRec.indication_first_line (c : CallRec) (noRadio : Bool) : c.indication noRadio =
    if c.state = .idle ∨ c.state = .clearing then .idle
    else if c.state = .connected then (if c.fading then .fading else .connected)
    else if c.state = .alertingIn then .incoming
    else if c.state = .queued ∧ noRadio = true then .noRadio
    else if c.regain = true then .reconnecting
    else if c.state = .queued then (if c.radioHeld then .searching else .wait)
    else if c.state = .seeking then (if 3 ≤ c.rounds then .noService else .searching)
    else if c.state = .ringing then .ringback
    else .connecting := by
  cases state : c.state <;> simp [CallRec.indication, state]

/-- Settles O40, from the fade test's two equations, the window's three cases and the lines of R124. -/
theorem fadeTest : Obligations.FadeTest := by
  refine ⟨fun c q => ⟨fun low => CallRec.fadeTest_low low c, fun good => CallRec.fadeTest_good good c⟩,
    fun c q₁ q₂ q₃ fresh clear low₁ low₂ low₃ => CallRec.fading_at_third_low low₁ low₂ low₃ fresh clear,
    fun c q fading low => CallRec.fading_stays_set low fading,
    CallRec.indication_first_line, fun p k key l q => ⟨fun connected => ⟨fun i slot => ?_, fun absent => ?_⟩, ?_⟩⟩
  · exact Part.takeWindow_of_slot l q connected slot
  · exact Part.takeWindow_of_no_slot l q connected absent
  · exact Part.takeWindow_of_not_connected key l q

end Sys2Proof.Machine

/-! # The pair of thresholds and the site record

A write of a settings item that leaves the Channel List alone touches three things: the settings, the write record
and the port's own transaction. R161 and R165 then speak of the numbers their bytes carry. -/

namespace Sys2Proof.Machine

/-! ## A setting is written (R158, R159) -/

/-- A settings write that makes the Channel List neither empty nor non-empty is no event of the inner blocks. -/
theorem State.writeSetting_quiet {s : State} {address : Nat} {data : List Byte}
    (quiet : s.settings.listHasItem = (s.settings.write address data).settings.listHasItem) :
    let w := s.settings.write address data
    s.writeSetting address data =
      { s with settings := w.settings, cabinet := s.cabinet.recordWrite address w.result w.clamped } := by
  simp [State.writeSetting, ← quiet]

theorem State.cabinetWrite_setting {address : Nat} (data : List Byte) (s : State) (notSelect : address ≠ 24)
    (notCommand : address ≠ 40) : s.cabinetWrite address data = s.writeSetting address data := by
  unfold State.cabinetWrite
  split
  · exact absurd rfl notSelect
  · exact absurd rfl notCommand
  · rfl

/-- What a whole write of a settings item leaves, from select to its last byte. -/
theorem State.writeItem_quiet {s : State} {address : Byte} {data : List Byte} (start : s.atStart .cabinet)
    (item : cabinetWriteBytes address.toNat = some data.length) (nonempty : data ≠ [])
    (low : address.toNat < 24)
    (quiet : s.settings.listHasItem = (s.settings.write address.toNat data).settings.listHasItem) :
    let w := s.settings.write address.toNat data
    s.writeItem .cabinet address data =
      { s with
        settings := w.settings
        cabinet := { s.cabinet with tx := Transaction.wrote address.toNat data }.recordWrite
          address.toNat w.result w.clamped } := by
  rw [State.writeItem_taken s .cabinet address data start (by omega) item nonempty, State.takeWrite,
    State.cabinetWrite_setting _ _ (by omega) (by omega), State.writeSetting_quiet (by simpa using quiet)]
  simp [State.setTx]

/-! ## The thresholds (R161) -/

theorem Settings.listHasItem_writeThresholds (g : Settings) (data : List Byte) :
    (g.writeThresholds data).settings.listHasItem = g.listHasItem := rfl

/-- R161: the pair in force keeps the warn code at least 2 above the shed code. -/
theorem thresholdPair_gap (warn shed : Nat) :
    (thresholdPair warn shed).2 + 2 ≤ (thresholdPair warn shed).1 := by
  simp only [thresholdPair, clampTo]
  omega

theorem exec_thresholds {s : State} (start : s.atStart .cabinet) (warn shed : Byte) :
    let pair := thresholdPair warn.toNat shed.toNat
    exec (.thresholds warn shed) s = .next
      { s with
        settings := { s.settings with warnCode := pair.1, shedCode := pair.2 }
        cabinet := { s.cabinet with tx := Transaction.wrote 9 [warn, shed] }.recordWrite 9 .accepted
          (pair.1 != warn.toNat || pair.2 != shed.toNat) } :=
  congrArg Host.Outcome.next
    (State.writeItem_quiet (address := 9) start rfl (List.cons_ne_nil _ _) (by decide)
      (Settings.listHasItem_writeThresholds _ _).symm)

/-! ## The site record (R165) -/

theorem Settings.listHasItem_writeSite (g : Settings) (data : List Byte) :
    (g.writeSite data).settings.listHasItem = g.listHasItem := rfl

/-- The five bytes of a SITE write carry the two numbers they were made of. -/
theorem Settings.writeSite_bytes (g : Settings) (code : BitVec 16) (km : BitVec 24) :
    g.writeSite (bytes2 code.toNat ++ bytes3 km.toNat) =
      { g with siteCode := code.toNat, kmPost := min 99999 km.toNat }.written
        (min 99999 km.toNat != km.toNat) := by
  have codeBytes : pairAt (bytes2 code.toNat ++ bytes3 km.toNat) 0 = code.toNat :=
    num2_bytes2 code.toNat code.isLt
  have kmBytes : byteAt (bytes2 code.toNat ++ bytes3 km.toNat) 2 * 65536 +
      pairAt (bytes2 code.toNat ++ bytes3 km.toNat) 3 = km.toNat := by
    have := km.isLt
    simp [pairAt, byteAt, bytes2, bytes3, toByte]
    omega
  simp only [Settings.writeSite, codeBytes, kmBytes, clampTo, Nat.zero_max]

theorem exec_site {s : State} (start : s.atStart .cabinet) (code : BitVec 16) (km : BitVec 24) :
    exec (.site code km) s = .next
      { s with
        settings := { s.settings with siteCode := code.toNat, kmPost := min 99999 km.toNat }
        cabinet := { s.cabinet with
            tx := Transaction.wrote 19 (bytes2 code.toNat ++ bytes3 km.toNat) }.recordWrite 19 .accepted
          (min 99999 km.toNat != km.toNat) } := by
  have written : s.settings.write 19 (bytes2 code.toNat ++ bytes3 km.toNat) =
    { s.settings with siteCode := code.toNat, kmPost := min 99999 km.toNat }.written
      (min 99999 km.toNat != km.toNat) := Settings.writeSite_bytes _ _ _
  have taken := State.writeItem_quiet (address := 19) start (data := bytes2 code.toNat ++ bytes3 km.toNat) rfl
    (List.cons_ne_nil _ _) (by decide) (Settings.listHasItem_writeSite _ _).symm
  rw [show (19 : Byte).toNat = 19 from rfl, written] at taken
  exact congrArg Host.Outcome.next taken

/-- Settles O50, from the states that the two writes leave and the gap of the pair. -/
theorem thresholdAndSiteWrites : Obligations.ThresholdAndSiteWrites := by
  refine fun s start => ⟨fun warn shed => ⟨_, exec_thresholds start warn shed, ?_⟩,
    fun code km => ⟨_, exec_site start code km, ?_⟩, rfl, rfl, rfl, rfl⟩
  · refine ⟨rfl, rfl, rfl, rfl, rfl, rfl, ?_, thresholdPair_gap _ _, ?_⟩
    · simp [thresholdPair, clampTo]
    · simp [CabinetPort.recordWrite]
  · refine ⟨rfl, rfl, rfl, rfl, rfl, ?_⟩
    simp [CabinetPort.recordWrite]

end Sys2Proof.Machine

/-! # What a step can do

One inversion for the whole machine: a step is a chain of changes, each an event of the inner blocks, a change of them
that is no event, a change of the ports alone, a write of the Site Settings, the beginning of a hold, or the release.
An invariant of every step is then one check for each kind of change. -/

namespace Sys2Proof.Machine

set_option Elab.async false

/-! ## The kinds of change -/

/-- The own effects of the commands that are events of the inner blocks. -/
inductive Part.Effect (g : Settings) : Part → Part → Prop where
  | frame (p : Part) (r : RcuId) (bytes : List Byte) : Effect g p (p.frameArrives g r bytes)
  | fault (p : Part) (r : RcuId) : Effect g p (p.moduleFault g r)
  | failure (p : Part) (r : RcuId) : Effect g p (p.failureExpiry g r)
  | noAnswer (p : Part) (r : RcuId) : Effect g p (p.answerExpires r)
  | doze (p : Part) (r : RcuId) : Effect g p (p.modRadio r Radio.dozeOff)
  | recovery (p : Part) (r : RcuId) : Effect g p (p.returnRadio r)
  | pause (p : Part) (k : RecId) : Effect g p (p.modCall k fun c => { c with pauseTimer := none, step := .start })
  | regain (p : Part) (k : RecId) : Effect g p (p.modCall k CallRec.regainExpired)
  | ring (p : Part) (k : RecId) (rings : (p.call k).rings = true) : Effect g p (p.ringTimeout k)
  | window (p : Part) : Effect g p p.closeWindow
  | survey (p : Part) : Effect g p (p.surveyTimeout g)
  | conversion (p : Part) (v : Microvolts) : Effect g p (p.conversionComplete v g)
  | gate (p : Part) (r : RcuId) : Effect g p ((p.modRadio r Radio.closeGate).formPair g r)
  | panel (p : Part) (k : RecId) (code : Byte) : Effect g p (p.panelEffect k code g)
  | cabinet (p : Part) (code parameter : Byte) : Effect g p (p.cabinetEffect code parameter g)
  | list (p : Part) (had : Bool) : Effect g p (p.listChanged g had)

/-- The changes of the inner blocks that are no event. -/
inductive Part.Silent (g : Settings) : Part → Part → Prop where
  | receiver (p : Part) (r : RcuId) (x : LinkReceiver) : Silent g p (p.modRadio r fun y => { y with receiver := x })
  | line (p : Part) (src : Source) (v : Microvolts) : Silent g p (p.setLine src v)
  | gateOpen (p : Part) (r : RcuId) (high : Bool) :
      Silent g p (p.modRadio r fun x => { x with gate := x.gate.openTick high })
  | edge (p : Part) (r : RcuId) : Silent g p (p.modRadio r fun x => { x with gate := x.gate.edge })
  | window (p : Part) (r : RcuId) (v : Microvolts) : Silent g p (p.windowCloses r v)
  | sample (p : Part) (v : Microvolts) : Silent g p (p.sampleExpires v)
  | age (p : Part) (t : Timer) : Silent g p { p.ageEntries with ageTimer := t }
  | second (p : Part) (t : Timer) :
      Silent g p { p with sideA := p.sideA.second, sideB := p.sideB.second, test := p.test.second, secondTimer := t }
  | notices (p : Part) (n : CabinetNotices) : Silent g p { p with notices := n }
  | holds (p : Part) (low again : Bool) (t : Timer) :
      Silent g p { p with power := { p.power with supplyLow := low, reasserted := again, cabinetHold := t } }
  | elapse (p : Part) (us : Nat) : Silent g p (p.elapse us)

/-- One change of the whole part. -/
inductive State.Change : State → State → Prop where
  | event (s : State) (q : Part) (effect : Part.Effect s.settings s.part q) : Change s (s.conclude q)
  | silent (s : State) (q : Part) (silent : Part.Silent s.settings s.part q) : Change s { s with part := q }
  | ports (s t : State) (part : t.part = s.part) (settings : t.settings = s.settings)
      (pending : t.pending = s.pending) : Change s t
  | write (s : State) (address : Nat) (data : List Byte) (whole : cabinetWriteBytes address = some data.length) :
      Change s { s with settings := (s.settings.write address data).settings }
  | powerOn (s : State) : Change s s.beginPowerOn
  | brownOut (s : State) : Change s s.beginBrownOut
  | cabinetReset (s : State) : Change s s.beginCabinetReset
  | release (s : State) : Change s s.release

/-- A chain of changes. -/
def State.Changes : State → State → Prop := Relation.ReflTransGen State.Change

theorem State.Changes.refl (s : State) : s.Changes s := Relation.ReflTransGen.refl

theorem State.Changes.trans {s t u : State} (h : s.Changes t) (h' : t.Changes u) : s.Changes u :=
  Relation.ReflTransGen.trans h h'

theorem State.Changes.one {s t : State} (h : s.Change t) : s.Changes t := Relation.ReflTransGen.single h

/-- What every change keeps, every chain of changes keeps. -/
theorem State.Changes.keeps {I : State → Prop} (keeps : ∀ s t, State.Change s t → I s → I t) {s t : State}
    (h : s.Changes t) (start : I s) : I t := by
  induction h with
  | refl => exact start
  | tail _ last ih => exact keeps _ _ last ih

/-! ## Single operations -/

theorem State.Changes.ofEvent {s : State} {f : Settings → Part → Part}
    (h : Part.Effect s.settings s.part (f s.settings s.part)) : s.Changes (s.event f) := by
  unfold State.event
  split
  · exact .refl s
  · exact .one (.event s _ h)

theorem State.Changes.ofEventIf {s : State} {ok : Part → Bool} {f : Settings → Part → Part}
    (h : ok s.part = true → Part.Effect s.settings s.part (f s.settings s.part)) : s.Changes (s.eventIf ok f) := by
  unfold State.eventIf
  split
  · next hok => exact .ofEvent (h hok)
  · exact .refl s

theorem State.Changes.ofModPart {s : State} {f : Part → Part} (h : Part.Silent s.settings s.part (f s.part)) :
    s.Changes (s.modPart f) := .one (.silent s _ h)

theorem State.Changes.ofPorts {s t : State} (part : t.part = s.part) (settings : t.settings = s.settings)
    (pending : t.pending = s.pending) : s.Changes t := .one (.ports s t part settings pending)

theorem State.Changes.ofModTx (s : State) (q : PortId) (f : Transaction → Transaction) : s.Changes (s.modTx q f) :=
  .ofPorts (by simp) (by simp) (by simp)

theorem State.Changes.ofSetTx (s : State) (q : PortId) (t : Transaction) : s.Changes (s.setTx q t) :=
  .ofPorts (by simp) (by simp) (by simp)

theorem State.Changes.ofModPanel (s : State) (d : Side) (f : PanelPort → PanelPort) : s.Changes (s.modPanel d f) :=
  .ofPorts (by simp) (by simp) (by simp)

/-- Operations one after another. -/
theorem State.Changes.foldl {α : Type} {f : State → α → State} (h : ∀ (s : State) (a : α), s.Changes (f s a)) (l : List α)
    (s : State) : s.Changes (l.foldl f s) := by
  induction l generalizing s with
  | nil => exact .refl s
  | cons a rest ih => exact (h s a).trans (ih (f s a))

/-! ## Module links -/

theorem State.linkByte_changes (r : RcuId) (s : State) (b : Byte) : s.Changes (s.linkByte r b) := by
  unfold State.linkByte
  split
  · exact .refl s
  · have moved := State.Changes.ofModPart (Part.Silent.receiver (g := s.settings) s.part r
      ((s.part.radio r).receiver.byte b).1)
    dsimp only
    split
    · exact moved.trans (.ofEvent (.frame _ _ _))
    · exact moved

theorem State.receive_changes (r : RcuId) (bytes : List Byte) (s : State) : s.Changes (s.receive r bytes) :=
  .foldl (State.linkByte_changes r) bytes s

/-! ## Ports -/

theorem State.panelCommand_changes (d : Side) (code : Byte) (s : State) : s.Changes (s.panelCommand d code) :=
  (State.Changes.ofEvent (.panel _ _ _)).trans (.ofModPanel _ _ _)

theorem State.cabinetCommand_changes (code parameter : Byte) (s : State) :
    s.Changes (s.cabinetCommand code parameter) := by
  unfold State.cabinetCommand
  split
  · exact .one (.cabinetReset s)
  · have acted : s.Changes (if s.cabinetResult code parameter = .accepted
        then s.event (Part.cabinetEffect code parameter) else s) := by
      split
      · exact .ofEvent (.cabinet _ _ _)
      · exact .refl s
    exact acted.trans (.ofPorts rfl rfl rfl)

theorem State.writeTableSelect_changes (data : List Byte) (s : State) : s.Changes (s.writeTableSelect data) := by
  unfold State.writeTableSelect
  dsimp only
  split <;> exact .ofPorts rfl rfl rfl

theorem State.writeSetting_changes (address : Nat) (data : List Byte) (s : State)
    (whole : cabinetWriteBytes address = some data.length) : s.Changes (s.writeSetting address data) := by
  have stored := State.Changes.one (.write s address data whole)
  unfold State.writeSetting
  dsimp only
  split
  · exact stored.trans (.ofPorts rfl rfl rfl)
  · exact (stored.trans (.ofEvent (.list _ _))).trans (.ofPorts rfl rfl rfl)

theorem State.takeWrite_changes (q : PortId) (address : Nat) (data : List Byte) (s : State)
    (whole : portWriteBytes q address = some data.length) : s.Changes (s.takeWrite q address data) := by
  cases q with
  | panelA => exact State.panelCommand_changes _ _ s
  | panelB => exact State.panelCommand_changes _ _ s
  | cabinet =>
    unfold State.takeWrite State.cabinetWrite
    dsimp only
    split
    · exact State.writeTableSelect_changes data s
    · exact State.cabinetCommand_changes _ _ s
    · exact State.writeSetting_changes _ data s whole

theorem State.readEffect_changes (q : PortId) (address : Nat) (s : State) : s.Changes (s.readEffect q address) := by
  cases q with
  | panelA => unfold State.readEffect; dsimp only; split <;> [exact .ofModPanel _ _ _; exact .refl s]
  | panelB => unfold State.readEffect; dsimp only; split <;> [exact .ofModPanel _ _ _; exact .refl s]
  | cabinet =>
    unfold State.readEffect
    dsimp only
    split
    · exact .ofModPart (.notices _ _)
    · split
      · exact .ofPorts rfl rfl rfl
      · exact .refl s

theorem State.takeHeader_changes (q : PortId) (b : Byte) (s : State) : s.Changes (s.takeHeader q b) := by
  unfold State.takeHeader
  dsimp only
  split
  · split
    · exact (State.readEffect_changes q _ s).trans (.ofModTx _ _ _)
    · exact .ofModTx _ _ _
  · split <;> exact .ofModTx _ _ _

theorem State.takeData_changes (q : PortId) (b : Byte) (s : State) : s.Changes (s.takeData q b) := by
  unfold State.takeData
  dsimp only
  split
  · split
    · next whole => exact (State.Changes.ofSetTx s q _).trans (State.takeWrite_changes q _ _ _ whole)
    · exact .ofSetTx _ _ _
  · exact .refl s

theorem State.clock_changes (q : PortId) (early : Bool) (s : State) (b : Byte) : s.Changes (s.clock q early b) := by
  unfold State.clock
  split
  · exact .ofModTx _ _ _
  · split
    · exact .refl s
    · exact State.takeHeader_changes q b s
    · exact State.takeData_changes q b s
    · exact .ofModTx _ _ _
    · exact .ofModTx _ _ _
    · exact .refl s

theorem State.clockBytes_changes (q : PortId) (early : Bool) (bytes : List Byte) (s : State) :
    s.Changes (s.clockBytes q early bytes) := .foldl (State.clock_changes q early) bytes s

/-! ## Supply -/

theorem State.releaseIfFree_changes (s : State) : s.Changes s.releaseIfFree := by
  unfold State.releaseIfFree
  split
  · exact .refl s
  · exact .one (.release s)

/-- A change of the hold causes. -/
theorem State.Changes.ofHolds (s : State) (low again : Bool) (t : Timer) : s.Changes (s.modPart fun p =>
    { p with power := { p.power with supplyLow := low, reasserted := again, cabinetHold := t } }) :=
  .ofModPart (.holds _ _ _ _)

theorem brownOutDeassert_changes (v : Microvolts) {s t : State} (h : execBrownOutDeassert v s = .next t) :
    s.Changes t := by
  cases h
  split
  · split
    · exact .ofHolds s s.part.power.supplyLow false s.part.power.cabinetHold
    · exact ((State.Changes.ofModPart (.line _ .battery v)).trans
        (.ofHolds (s.setBattery v) false s.part.power.reasserted s.part.power.cabinetHold)).trans
        (State.releaseIfFree_changes _)
  · exact .refl s

theorem cabinetHoldEnd_changes (v : Microvolts) {s t : State} (h : execCabinetHoldEnd v s = .next t) :
    s.Changes t := by
  cases h
  split
  · exact ((State.Changes.ofModPart (.line _ .battery v)).trans
      (.ofHolds (s.setBattery v) s.part.power.supplyLow s.part.power.reasserted none)).trans
      (State.releaseIfFree_changes _)
  · exact .refl s

/-! ## Every command, every step -/

theorem State.ageTick_changes (s : State) : s.Changes s.ageTick := by
  unfold State.ageTick
  split
  · exact .one (.silent s _ (.age _ _))
  · exact .refl s

theorem State.elapsedSecond_changes (s : State) : s.Changes s.elapsedSecond := by
  unfold State.elapsedSecond
  split
  · exact .one (.silent s _ (.second _ _))
  · exact .refl s

/-- Every command is a chain of changes. -/
theorem exec_changes (c : Instr) {s t : State} (h : exec c s = .next t) : s.Changes t := by
  cases c
  case brownOutDeassert v => exact brownOutDeassert_changes v h
  case cabinetHoldEnd v => exact cabinetHoldEnd_changes v h
  all_goals cases h
  case settled => exact (State.Changes.ofModPart (.line _ _ _)).trans (State.receive_changes _ _ _)
  case linkGap => exact (State.receive_changes _ _ _).trans (.ofModPart (.receiver _ _ _))
  case ackLimitExpiry => exact .ofEventIf fun _ => .fault _ _
  case failureExpiry => exact .ofEventIf fun _ => .failure _ _
  case faultExpiry => exact .ofEventIf fun _ => .fault _ _
  case answerTimerExpiry => exact .ofEventIf fun _ => .noAnswer _ _
  case readyTimerExpiry => exact .ofEventIf fun _ => .fault _ _
  case dozeTimerExpiry => exact .ofEventIf fun _ => .doze _ _
  case recoveryTimerExpiry => exact .ofEventIf fun _ => .recovery _ _
  case pauseTimerExpiry => exact .ofEventIf fun _ => .pause _ _
  case regainTimerExpiry => exact .ofEventIf fun _ => .regain _ _
  case ringTimerExpiry => exact .ofEventIf fun rings => .ring _ _ rings
  case windowExpiry => exact .ofEventIf fun _ => .window _
  case ageTick => exact State.ageTick_changes s
  case surveyTimerExpiry => exact .ofEventIf fun _ => .survey _
  case sampleTimerExpiry => exact .ofModPart (.sample _ _)
  case elapsedSecond => exact State.elapsedSecond_changes s
  case conversionComplete => exact .ofEventIf fun _ => .conversion _ _
  case gateOpen => exact .ofModPart (.gateOpen _ _ _)
  case syncRisingEdge => exact .ofModPart (.edge _ _)
  case gateClose => exact .ofEventIf fun _ => .gate _ _
  case continuousWindowClose => exact .ofModPart (.window _ _ _)
  case powerOn => exact .one (.powerOn s)
  case brownOutAssert => exact .one (.brownOut s)
  case selectAssert => exact .ofModTx _ _ _
  case selectDeassert => exact (State.clockBytes_changes _ _ _ _).trans (.ofModTx _ _ _)
  case heard => exact State.receive_changes _ _ _
  case accepted => exact State.receive_changes _ _ _
  case malformedFrame => exact State.receive_changes _ _ _
  case discardedFrame => exact State.receive_changes _ _ _
  all_goals first
    | exact State.clockBytes_changes _ _ _ _
    | exact State.receive_changes _ _ _

/-- R184, log 2: a step is a chain of changes too, from the state without the command it takes. -/
theorem step_keeps {I : State → Prop} (keeps : ∀ s t, State.Change s t → I s → I t)
    (queue : ∀ s rest, I s → I { s with pending := rest }) {s t : State} (h : step s = .next t) (start : I s) :
    I t := by
  unfold step at h
  split at h
  · cases h
    exact keeps _ _ (.silent s _ (.elapse _ _)) start
  · next c rest _ => exact (exec_changes c h).keeps keeps (queue s rest start)

/-! ## The queue and the settings -/

/-- No change of the part touches the queue of commands. -/
theorem State.Change.pending_eq {s t : State} (h : s.Change t) : t.pending = s.pending := by
  cases h with
  | ports pending => assumption
  | _ => rfl

theorem exec_pending {c : Instr} {s t : State} (h : exec c s = .next t) : t.pending = s.pending :=
  (exec_changes c h).keeps (I := fun u => u.pending = s.pending)
    (fun _ _ change same => change.pending_eq.trans same) rfl

@[simp] theorem State.settings_linkByte (r : RcuId) (s : State) (b : Byte) :
    (s.linkByte r b).settings = s.settings := by
  unfold State.linkByte
  split
  · rfl
  · dsimp only
    split <;> simp

@[simp] theorem State.settings_receive (r : RcuId) (bytes : List Byte) (s : State) :
    (s.receive r bytes).settings = s.settings := by
  unfold State.receive
  induction bytes generalizing s with
  | nil => rfl
  | cons b rest ih => rw [List.foldl_cons, ih, State.settings_linkByte]

theorem State.settings_readEffect (q : PortId) (address : Nat) (s : State) :
    (s.readEffect q address).settings = s.settings := by
  cases q with
  | panelA => unfold State.readEffect; dsimp only; split <;> simp
  | panelB => unfold State.readEffect; dsimp only; split <;> simp
  | cabinet => unfold State.readEffect; dsimp only; split <;> [rfl; (split <;> rfl)]

/-- A byte at a panel port writes no setting. -/
theorem State.settings_clock_panel {q : PortId} (panel : q ≠ .cabinet) (early : Bool) (s : State) (b : Byte) :
    (s.clock q early b).settings = s.settings := by
  have write : ∀ address data (u : State), (u.takeWrite q address data).settings = u.settings := by
    intro address data u
    cases q with
    | panelA => simp [State.takeWrite, State.panelCommand]
    | panelB => simp [State.takeWrite, State.panelCommand]
    | cabinet => exact absurd rfl panel
  have header : (s.takeHeader q b).settings = s.settings := by
    unfold State.takeHeader
    dsimp only
    split <;> split <;> simp [State.settings_readEffect]
  have data : (s.takeData q b).settings = s.settings := by
    unfold State.takeData
    dsimp only
    split
    · split <;> simp [write]
    · rfl
  unfold State.clock
  split
  · simp
  · split <;> simp [header, data]

theorem State.settings_clockBytes_panel {q : PortId} (panel : q ≠ .cabinet) (early : Bool) (bytes : List Byte)
    (s : State) : (s.clockBytes q early bytes).settings = s.settings := by
  unfold State.clockBytes
  induction bytes generalizing s with
  | nil => rfl
  | cons b rest ih => rw [List.foldl_cons, ih, State.settings_clock_panel panel]

theorem Side.port_ne_cabinet (d : Side) : d.port ≠ .cabinet := by cases d <;> simp [Side.port]

theorem State.settings_release (s : State) : s.releaseIfFree.settings = s.settings := by
  unfold State.releaseIfFree
  split <;> rfl

/-- The Site Settings after a command that puts no byte on the Cabinet Port and loads no defaults. -/
theorem exec_settings {c : Instr} (quiet : mayChangeSettings c = false) {s t : State} (h : exec c s = .next t) :
    t.settings = s.settings := by
  cases c
  all_goals first | (cases quiet; done) | skip
  all_goals cases h
  case brownOutDeassert =>
    split
    · split
      · rfl
      · exact State.settings_release _
    · rfl
  case cabinetHoldEnd =>
    split
    · exact State.settings_release _
    · rfl
  case ageTick => unfold State.ageTick; split <;> rfl
  case elapsedSecond => unfold State.elapsedSecond; split <;> rfl
  case selectAssert => exact State.settings_modTx _ _ _
  case selectDeassert q bytes early =>
    have panel : q ≠ .cabinet := by simpa [mayChangeSettings] using quiet
    exact (State.settings_modTx _ _ _).trans (State.settings_clockBytes_panel panel _ _ _)
  case ignoredHeader q header data =>
    have panel : q ≠ .cabinet := by simpa [mayChangeSettings] using quiet
    exact State.settings_clockBytes_panel panel _ _ _
  all_goals first
    | exact State.settings_eventIf _ _ _
    | exact State.settings_receive _ _ _
    | exact State.settings_clockBytes_panel (Side.port_ne_cabinet _) _ _ _
    | rfl

theorem exec_completes (c : Instr) (s : State) : ∃ t, exec c s = .next t := by
  cases c <;> exact ⟨_, rfl⟩

/-- Settles O1: the equation of `step` at a queue with a front. -/
theorem stepTakesFrontCommand : Obligations.StepTakesFrontCommand := by
  intro c rest s front
  simp [step, front]

/-- Settles O2, from the inversion of a command and the frame of the settings. -/
theorem everyCommandCompletes : Obligations.EveryCommandCompletes := by
  intro c s
  obtain ⟨t, ht⟩ := exec_completes c s
  exact ⟨t, ht, exec_pending ht, fun quiet => exec_settings quiet ht⟩

end Sys2Proof.Machine

/-! # The Site Settings stay in their ranges

Only a whole write of a settings item changes the settings, beside the resets that load defaults. Each write either
is refused or stores values in range. -/

namespace Sys2Proof.Machine

set_option Elab.async false

/-! ## Bytes of a write -/

theorem byteAt_lt (data : List Byte) (i : Nat) : byteAt data i < 256 := (data[i]?.getD 0).isLt

theorem pairAt_lt (data : List Byte) (i : Nat) : pairAt data i < 65536 := by
  have hi := byteAt_lt data i
  have lo := byteAt_lt data (i + 1)
  unfold pairAt
  omega

/-- R159: a clamped value lies in its range. -/
theorem clampTo_mem {lo hi : Nat} (range : lo ≤ hi) (n : Nat) : lo ≤ clampTo lo hi n ∧ clampTo lo hi n ≤ hi := by
  unfold clampTo
  omega

theorem clampItem_mem (item : SettingItem) (n : Nat) :
    (itemRange item).1 ≤ clampItem item n ∧ clampItem item n ≤ (itemRange item).2 :=
  clampTo_mem (by cases item <;> decide) n

/-! ## The writes, item by item -/

theorem Settings.Ok.writeItem {g : Settings} (ok : g.Ok) (item : SettingItem) (data : List Byte) :
    (g.writeItem item data).settings.Ok := by
  have inRange := clampItem_mem item (numOf data)
  cases item
  case levelFloor => exact { ok with levelFloor := inRange }
  case agePeriod => exact { ok with agePeriod := inRange }
  case surveyPeriod => exact { ok with surveyPeriod := inRange }
  case kindBonuses =>
    have bonus := fun i => (clampItem_mem .kindBonuses (byteAt data i)).2
    exact { ok with kindBonuses := ⟨bonus 0, bonus 1, bonus 2⟩ }
  case regainWindow => exact { ok with regainWindow := inRange }
  case answerTimeout => exact { ok with answerTimeout := inRange }
  case callbackWindow => exact { ok with callbackWindow := inRange.2 }
  case dozeDelay => exact { ok with dozeDelay := inRange }

theorem Settings.Ok.writeThresholds {g : Settings} (ok : g.Ok) (data : List Byte) :
    (g.writeThresholds data).settings.Ok := by
  have warn := clampTo_mem (by decide : 2 ≤ 61) (byteAt data 0)
  exact { ok with thresholds := ⟨warn.1, warn.2, thresholdPair_gap _ _⟩ }

theorem Settings.Ok.writeSite {g : Settings} (ok : g.Ok) (data : List Byte) :
    (g.writeSite data).settings.Ok :=
  { ok with site := ⟨Nat.le_of_lt_succ (pairAt_lt data 0), (clampTo_mem (by decide : 0 ≤ 99999) _).2⟩ }

/-- Emptying an index keeps the Operator Table as it should be. -/
theorem Settings.Ok.emptyOperator {g : Settings} (ok : g.Ok) (index : Nat) :
    Settings.Ok { g with operators := g.operators.set index none } := by
  obtain ⟨length, records⟩ := ok.operators
  have kept : ∀ (i : Nat) (o : OperatorRec), (g.operators.set index none)[i]? = some (some o) →
      g.operators[i]? = some (some o) := by
    intro i o h
    rw [List.getElem?_set] at h
    split at h
    · split at h <;> cases h
    · exact h
  refine { ok with
    operators := ⟨by simpa using length, fun o ho => ?_⟩
    oneRecordPerCarrier := fun i j a b ha hb => ok.oneRecordPerCarrier i j a b (kept i a ha) (kept j b hb) }
  obtain ⟨i, hi⟩ := List.mem_iff_getElem?.mp ho
  exact records o (List.mem_iff_getElem?.mpr ⟨i, kept i o hi⟩)

/-- What stands in the Operator Table after a record is put: the record at its index, elsewhere the records of other
carriers. -/
theorem getElem?_putOperator {index : Nat} {o : OperatorRec} {t : List (Option OperatorRec)} {i : Nat}
    {a : OperatorRec} (h : (putOperator index o t)[i]? = some (some a)) :
    (i = index ∧ a = o) ∨ (i ≠ index ∧ t[i]? = some (some a) ∧ a.carrier ≠ o.carrier) := by
  unfold putOperator at h
  rw [List.getElem?_set] at h
  split at h
  · next same =>
    split at h
    · cases h; exact .inl ⟨same.symm, rfl⟩
    · cases h
  · next other =>
    rw [List.getElem?_map] at h
    obtain ⟨x, hx, filtered⟩ := Option.map_eq_some_iff.mp h
    obtain ⟨rfl, carrier⟩ := Option.filter_eq_some_iff.mp filtered
    exact .inr ⟨fun h => other h.symm, hx, by simpa using carrier⟩

theorem Settings.Ok.putOperator {g : Settings} (ok : g.Ok) (index : Nat) {o : OperatorRec} (record : o.Ok) :
    Settings.Ok { g with operators := Machine.putOperator index o g.operators } := by
  obtain ⟨length, records⟩ := ok.operators
  refine { ok with
    operators := ⟨by simpa [Machine.putOperator] using length, fun a ha => ?_⟩
    oneRecordPerCarrier := fun i j a b ha hb same => ?_ }
  · obtain ⟨i, hi⟩ := List.mem_iff_getElem?.mp ha
    obtain ⟨_, rfl⟩ | ⟨_, old, _⟩ := getElem?_putOperator hi
    · exact record
    · exact records a (List.mem_iff_getElem?.mpr ⟨i, old⟩)
  · obtain ⟨hi, rfl⟩ | ⟨_, oldA, neA⟩ := getElem?_putOperator ha <;>
      obtain ⟨hj, rfl⟩ | ⟨_, oldB, neB⟩ := getElem?_putOperator hb
    · exact hi.trans hj.symm
    · exact absurd same.symm neB
    · exact absurd same neA
    · exact ok.oneRecordPerCarrier i j a b oldA oldB same

theorem Settings.Ok.writeOperator {g : Settings} (ok : g.Ok) (data : List Byte) :
    (g.writeOperator data).settings.Ok := by
  unfold Settings.writeOperator
  dsimp only
  split
  · exact ok
  · split
    · exact ok.emptyOperator _
    · split
      · exact ok
      · exact ok.putOperator _ ⟨by dsimp only; omega, by dsimp only; omega, by dsimp only; omega⟩

theorem Settings.Ok.setChannel {g : Settings} (ok : g.Ok) (position : Nat) {i : Option ChannelItem}
    (item : ∀ x, i = some x → x.Ok) : Settings.Ok { g with channels := g.channels.set position i } := by
  obtain ⟨length, items⟩ := ok.channels
  refine { ok with channels := ⟨by simpa using length, fun x hx => ?_⟩ }
  obtain old | new := List.mem_or_eq_of_mem_set hx
  · exact items x old
  · exact item x new.symm

theorem Settings.Ok.writeChannel {g : Settings} (ok : g.Ok) (data : List Byte) :
    (g.writeChannel data).settings.Ok := by
  unfold Settings.writeChannel
  dsimp only
  split
  · exact ok
  · split
    · exact ok.setChannel _ (by simp)
    · split
      · exact ok
      · next inRange =>
        refine ok.setChannel _ fun x hx => ?_
        cases hx
        simp only [not_or, gateLengths, List.contains_cons, List.contains_nil] at inRange
        obtain ⟨band, channel, gate⟩ := inRange
        exact ⟨by dsimp only; omega, by dsimp only; omega, by simp at gate; dsimp only; omega⟩

/-- R164: digits of a destination that passes the test. -/
theorem digits_le {data : List Byte} {n : Nat} (good : ((data.take n).map (·.toNat)).any (9 < ·) = false) :
    ∀ d ∈ (data.take n).map (·.toNat), d ≤ 9 := by
  intro d hd
  have := List.any_eq_false.mp good d hd
  simpa using this

theorem Settings.Ok.writeDestinations {g : Settings} (ok : g.Ok) {data : List Byte} (whole : data.length = 22) :
    (g.writeDestinations data).settings.Ok := by
  unfold Settings.writeDestinations
  dsimp only
  split
  · exact ok
  · next good =>
    simp only [not_or, Bool.not_eq_false, Bool.not_eq_true] at good
    obtain ⟨allowed, digits⟩ := good
    have small := digits_le digits
    have length : (((data.drop 2).take (byteAt data 1)).map (·.toNat)).length = min (byteAt data 1) 20 := by
      simp [whole]
    split
    · next ops =>
      rw [ops] at allowed
      have : byteAt data 1 ≤ 20 := by simpa [digitCountAllowed] using allowed
      exact { ok with opsDigits := ⟨by rw [Settings.written, length]; omega, small⟩ }
    · next notOps =>
      have : 1 ≤ byteAt data 1 ∧ byteAt data 1 ≤ 6 := by
        unfold digitCountAllowed at allowed
        split at allowed
        · next zero => exact absurd zero notOps
        · simpa using allowed
        · cases allowed
      refine { ok with publicDigits := ⟨?_, ?_, small⟩ }
      · rw [Settings.written, length]; omega
      · rw [Settings.written, length]; omega

/-- Every whole write of a settings item keeps the settings in their ranges. -/
theorem Settings.Ok.write {g : Settings} (ok : g.Ok) (address : Nat) (data : List Byte)
    (whole : cabinetWriteBytes address = some data.length) : (g.write address data).settings.Ok := by
  unfold Settings.write
  split
  case h_9 => exact ok.writeThresholds data
  case h_10 => exact ok.writeOperator data
  case h_11 => exact ok.writeChannel data
  case h_12 => exact ok.writeDestinations (Option.some.inj whole).symm
  case h_13 => exact ok.writeSite data
  case h_14 => exact ok
  all_goals exact ok.writeItem _ data

/-! ## The defaults and every step -/

theorem Settings.ok_default : Settings.default.Ok where
  levelFloor := by decide
  agePeriod := by decide
  surveyPeriod := by decide
  kindBonuses := by decide
  regainWindow := by decide
  answerTimeout := by decide
  callbackWindow := by decide
  dozeDelay := by decide
  thresholds := by decide
  operators := ⟨rfl, fun o ho => by simp [Settings.default] at ho⟩
  oneRecordPerCarrier := fun i j a b ha _ _ => by
    have := List.mem_iff_getElem?.mpr ⟨i, ha⟩
    simp [Settings.default] at this
  channels := ⟨rfl, fun i hi => by simp [Settings.default] at hi⟩
  opsDigits := by decide
  publicDigits := by decide
  site := by decide

theorem State.Change.settings_ok {s t : State} (h : s.Change t) (ok : s.settings.Ok) : t.settings.Ok := by
  cases h with
  | write address data whole => exact ok.write address data whole
  | ports t part settings => rw [settings]; exact ok
  | powerOn => exact Settings.ok_default
  | brownOut => exact Settings.ok_default
  | _ => exact ok

/-- Settles O56: every change of a step keeps the settings in their ranges. -/
theorem settingsStayInRange : Obligations.SettingsStayInRange :=
  fun _ _ ok h => step_keeps (fun _ _ change => change.settings_ok) (fun _ _ ok => ok) h ok

end Sys2Proof.Machine

/-! # Keys and ranges: what every operation keeps

The invariants of the Cell Table and the stack (R1, R128) and of the measured and counted values (R2, R24, R31, R57,
R77) hold component by component, so every operation of the inner blocks keeps both. `Part.Evolves` says this of one
operation, and the operations are gone through in the order of the model. -/

namespace Sys2Proof.Machine

set_option Elab.async false

/-! ## Entries, slots and keys -/

theorem Part.mem_table_iff (p : Part) (e : Entry) : some e ∈ p.table ↔ ∃ i, p.entryAt i = some e := by
  rw [List.mem_iff_getElem?]
  exact exists_congr fun i => (p.entryAt_eq_some i e).symm

theorem Part.slotOf_eq_none {p : Part} {key : Key} (h : p.slotOf key = none) {i : Nat} {e : Entry}
    (he : p.entryAt i = some e) : e.key ≠ key := by
  have member := (p.mem_table_iff e).mpr ⟨i, he⟩
  simpa using List.findIdx?_eq_none_iff.mp h _ member

theorem Part.slotOf_eq_some {p : Part} {key : Key} {i : Nat} (h : p.slotOf key = some i) :
    ∃ e, p.entryAt i = some e ∧ e.key = key := by
  obtain ⟨inRange, found, _⟩ := List.findIdx?_eq_some_iff_getElem.mp h
  obtain ⟨e, he, same⟩ := Option.any_eq_true _ _ |>.mp found
  refine ⟨e, (p.entryAt_eq_some i e).mpr ?_, by simpa using same⟩
  rw [List.getElem?_eq_getElem inRange, he]

/-! ## An RCU in range -/

namespace Radio.Ok

variable {x : Radio}

theorem nextTag (h : x.Ok) : 1 ≤ Machine.nextTag x.tagCounter ∧ Machine.nextTag x.tagCounter ≤ 15 := by
  have := h.tagCounter
  unfold Machine.nextTag
  split <;> omega

theorem send (h : x.Ok) (o : Order) (i : Issuer) : (x.send o i).Ok := ⟨h.code, h.pair, h.nextTag, h.faultCount⟩

theorem offer (h : x.Ok) (o : Order) : (x.offer o).Ok := by
  unfold Radio.offer
  split
  · exact h.send o .holder
  · exact h

theorem retire (h : x.Ok) : x.retire.Ok := by
  unfold Radio.retire
  split
  · split
    · exact ⟨h.code, h.pair, h.nextTag, h.faultCount⟩
    · exact h
  · exact h

theorem abandon (h : x.Ok) : x.abandon.Ok := ⟨h.retire.code, h.retire.pair, h.retire.tagCounter, h.retire.faultCount⟩

theorem unbegin (h : x.Ok) : x.unbegin.Ok := by
  unfold Radio.unbegin
  split
  · have := h.tagCounter
    refine ⟨h.code, h.pair, ?_, h.faultCount⟩
    dsimp only [lastTag]
    split <;> omega
  · exact h

theorem boot (h : x.Ok) : x.boot.Ok := ⟨h.code, h.pair, h.tagCounter, h.faultCount⟩

theorem wakeUp (h : x.Ok) : x.wakeUp.Ok := ⟨h.code, h.pair, h.nextTag, h.faultCount⟩

theorem bringUp (h : x.Ok) : x.bringUp.Ok := by
  have stopped : Radio.Ok { x with dozeTimer := none } := ⟨h.code, h.pair, h.tagCounter, h.faultCount⟩
  unfold Radio.bringUp
  dsimp only
  split <;> try exact stopped
  · exact stopped.boot
  · split
    · exact stopped.wakeUp
    · exact ⟨h.code, h.pair, h.tagCounter, h.faultCount⟩

theorem measure (h : x.Ok) (item : SweepItem) : (x.measure item).Ok := by
  unfold Radio.measure
  split
  · have taken : Radio.Ok { x with
        measurement := { phase := .settling, key := some item.key, gate := item.gate, requester := some .sweep,
                         code := none, count := none } } :=
      ⟨fun _ hn => (by cases hn), h.pair, h.tagCounter, h.faultCount⟩
    exact taken.offer _
  · exact h

theorem clear (h : x.Ok) : x.clear.Ok := by
  unfold Radio.clear
  generalize hy : (if x.slot.any (·.runsOn) then { x with answerTimer := none } else x.abandon) = y
  have ended : y.Ok := by
    subst hy
    split
    · exact ⟨h.code, h.pair, h.tagCounter, h.faultCount⟩
    · exact h.abandon
  dsimp only
  split
  · exact ended.offer _
  · exact ended

theorem faulted (h : x.Ok) : x.faulted.Ok := by
  have count : satInc 3 x.faultCount ≤ 3 := by
    unfold satInc
    split <;> omega
  unfold Radio.faulted
  dsimp only
  split <;> exact ⟨h.code, h.pair, h.tagCounter, count⟩

theorem acknowledge (h : x.Ok) (tag : Nat) : (x.acknowledge tag).Ok := by
  unfold Radio.acknowledge
  split
  · split
    · exact ⟨h.code, h.pair, h.tagCounter, h.faultCount⟩
    · exact h
  · exact h

theorem closeGate (h : x.Ok) : x.closeGate.Ok := by
  refine ⟨fun n hn => h.code n ?_, h.pair, h.tagCounter, h.faultCount⟩
  unfold Radio.closeGate at hn
  dsimp only at hn
  split at hn <;> exact hn

theorem dozeWait (h : x.Ok) (g : Settings) : (x.dozeWait g).Ok := by
  have : ∀ t, Radio.Ok { x with dozeTimer := t } := fun t => ⟨h.code, h.pair, h.tagCounter, h.faultCount⟩
  unfold Radio.dozeWait
  split
  · split
    · exact h
    · exact this _
  · exact this _

/-- A change of the sweep context that brings in no pair. -/
theorem mapSweep (h : x.Ok) {f : Sweep → Sweep} (pair : ∀ c l q, (f c).pair = some (l, q) → c.pair = some (l, q)) :
    Radio.Ok { x with sweep := x.sweep.map f } := by
  refine ⟨h.code, fun c l q hc hp => ?_, h.tagCounter, h.faultCount⟩
  obtain ⟨c', hc', rfl⟩ := Option.map_eq_some_iff.mp hc
  exact h.pair c' l q hc' (pair c' l q hp)

/-- A context at its creation, or none, holds no pair. -/
theorem newSweep (h : x.Ok) {c : Option Sweep} (pair : ∀ d, c = some d → d.pair = none) :
    Radio.Ok { x with sweep := c } :=
  ⟨h.code, fun d l q hd hp => by simp [pair d hd] at hp, h.tagCounter, h.faultCount⟩

theorem elapse (h : x.Ok) (us : Nat) (beat : Bool) : (x.elapse us beat).Ok :=
  have swept := h.mapSweep (f := fun c => { c with endedNow := false }) fun _ _ _ hp => hp
  ⟨h.code, swept.pair, h.tagCounter, h.faultCount⟩

end Radio.Ok

/-! ## Conversions and entries in range -/

theorem Conversion.ok_begin (src : Source) (v : Microvolts) : (Conversion.begin src v).Ok := by
  simp [Conversion.Ok, Conversion.begin]

/-- A trial adds at most its own bit, which the trials still to come no longer can. -/
theorem Conversion.Ok.trial {c : Conversion} (h : c.Ok) (more : c.trials < 6) : c.trial.Ok := by
  obtain ⟨_, room⟩ := h
  have split : 2 ^ (6 - c.trials) = 2 ^ (5 - c.trials) + 2 ^ (5 - c.trials) := by
    rw [show 6 - c.trials = (5 - c.trials) + 1 by omega, pow_succ]
    omega
  have left : 6 - (c.trials + 1) = 5 - c.trials := by omega
  refine ⟨more, ?_⟩
  simp only [Conversion.trial, left]
  split
  · omega
  · exact (Nat.add_le_add_left (split ▸ Nat.le_add_left _ _) _).trans room

theorem Conversion.Ok.finish {n : Nat} {c : Conversion} (h : c.Ok) (room : c.trials + n ≤ 6) :
    (c.finish n).Ok ∧ (c.finish n).trials = c.trials + n := by
  induction n generalizing c with
  | zero => exact ⟨h, rfl⟩
  | succ n ih =>
    have next : c.trial.trials = c.trials + 1 := rfl
    obtain ⟨ok, trials⟩ := ih (h.trial (by omega)) (by omega)
    exact ⟨ok, by rw [Conversion.finish, trials]; omega⟩

/-- R24: a result is a level code. -/
theorem Conversion.Ok.result_le {c : Conversion} (h : c.Ok) : c.result ≤ 63 := by
  have trials := h.1
  obtain ⟨⟨_, room⟩, done⟩ := h.finish (n := 6 - c.trials) (by omega)
  rw [done, show 6 - (c.trials + (6 - c.trials)) = 0 by omega] at room
  unfold Conversion.result
  omega

theorem Conversion.Ok.elapse {c : Conversion} (h : c.Ok) (us : Nat) : (c.elapse us).Ok := by
  unfold Conversion.elapse
  split
  · next more =>
    split
    · exact h.trial more
    · exact h
  · exact h

theorem qualityOf_le (n g : Nat) : qualityOf n g ≤ 100 := Nat.min_le_left _ _

theorem satInc_le {top n : Nat} : satInc top n ≤ top := by
  unfold satInc
  split <;> omega

theorem Entry.Ok.older {e : Entry} (h : e.Ok) : e.older.Ok := ⟨h.1, h.2.1, satInc_le, h.2.2.2⟩

theorem Entry.Ok.measured {e : Entry} (h : e.Ok) (g : Settings) (refresh : Bool) {l q : Nat} (level : l ≤ 63)
    (quality : q ≤ 100) : (e.measured g refresh l q).Ok := by
  obtain ⟨_, _, _, failures⟩ := h
  refine ⟨level, quality, Nat.zero_le _, ?_⟩
  dsimp only [Entry.measured]
  split <;> omega

theorem Entry.Ok.failed {e : Entry} (h : e.Ok) : e.failed.Ok := ⟨h.1, h.2.1, h.2.2.1, satInc_le⟩

theorem Entry.Ok.notFound {e : Entry} (h : e.Ok) : e.notFound.Ok := ⟨Nat.zero_le _, h.2.1, h.2.2.1, satInc_le⟩

theorem Entry.Ok.barredAt {e : Entry} (h : e.Ok) (a : Access) : (e.barredAt a).Ok := by cases a <;> exact h

@[simp] theorem Entry.key_barredAt (a : Access) (e : Entry) : (e.barredAt a).key = e.key := by cases a <;> rfl

theorem nextPass_le (n : Nat) : nextPass n ≤ 3 := by
  unfold nextPass
  split <;> omega

/-! ## The invariants by component -/

theorem Part.InRange.radio {p : Part} (h : p.InRange) (r : RcuId) : (p.radio r).Ok := by
  cases r
  · exact h.radio0
  · exact h.radio1

theorem Part.InRange.entry {p : Part} (h : p.InRange) {i : Nat} {e : Entry} (he : p.entryAt i = some e) : e.Ok :=
  h.entries e ((p.mem_table_iff e).mpr ⟨i, he⟩)

/-- What an operation from `p` to `q` keeps. -/
structure Part.Evolves (g : Settings) (p q : Part) : Prop where
  keyed : p.Keyed → q.Keyed
  inRange : g.Ok → p.InRange → q.InRange

namespace Part.Evolves

variable {g : Settings} {p q : Part}

theorem refl (g : Settings) (p : Part) : Evolves g p p := ⟨id, fun _ => id⟩

theorem trans {p q u : Part} (h : Evolves g p q) (h' : Evolves g q u) : Evolves g p u :=
  ⟨h'.keyed ∘ h.keyed, fun ok inRange => h'.inRange ok (h.inRange ok inRange)⟩

/-- One more operation, whose ranges may rest on those of the beginning. -/
theorem extend (h : Evolves g p q) {u : Part} (keyed : q.Keyed → u.Keyed)
    (inRange : g.Ok → p.InRange → q.InRange → u.InRange) : Evolves g p u :=
  ⟨keyed ∘ h.keyed, fun ok start => inRange ok start (h.inRange ok start)⟩

/-- A change of none of the components that the two invariants speak of. -/
theorem frame (h : Evolves g p q) {u : Part} (table : u.table = q.table := by rfl)
    (stack : u.stack = q.stack := by rfl) (radio0 : u.radio0 = q.radio0 := by rfl)
    (radio1 : u.radio1 = q.radio1 := by rfl) (converter : u.converter = q.converter := by rfl)
    (battery : u.power.battery = q.power.battery := by rfl)
    (passCount : u.survey.passCount = q.survey.passCount := by rfl) : Evolves g p u := by
  refine h.trans ⟨fun k => ?_, fun _ i => ?_⟩
  · exact ⟨table ▸ k.slots, fun i j a b => by simpa only [entryAt_congr table] using k.oneEntryPerKey i j a b,
      stack ▸ k.stackDepth, stack ▸ k.stackKeys⟩
  · exact ⟨table ▸ i.entries, converter ▸ i.conversion, radio0 ▸ i.radio0, radio1 ▸ i.radio1, battery ▸ i.battery,
      passCount ▸ i.passCount⟩

/-! ### Components, one by one -/

/-- A change of one RCU that keeps it in range, where that rests on the ranges of the beginning. -/
theorem modRadioIn (h : Evolves g p q) (r : RcuId) {f : Radio → Radio}
    (ok : g.Ok → p.InRange → (f (q.radio r)).Ok) : Evolves g p (q.modRadio r f) := by
  refine h.extend (fun k => ?_) fun settings start i => ?_
  · cases r <;> exact ⟨k.slots, k.oneEntryPerKey, k.stackDepth, k.stackKeys⟩
  · have changed := ok settings start
    cases r
    · exact ⟨i.entries, i.conversion, changed, i.radio1, i.battery, i.passCount⟩
    · exact ⟨i.entries, i.conversion, i.radio0, changed, i.battery, i.passCount⟩

theorem modRadio (h : Evolves g p q) (r : RcuId) {f : Radio → Radio} (ok : ∀ x : Radio, x.Ok → (f x).Ok) :
    Evolves g p (q.modRadio r f) := h.modRadioIn r fun settings start => ok _ ((h.inRange settings start).radio r)

/-- A change of one RCU's fields beside its tag counter, fault count, code and pair. -/
theorem plainRadio (h : Evolves g p q) (r : RcuId) {f : Radio → Radio}
    (tagCounter : ∀ x, (f x).tagCounter = x.tagCounter := by intro; rfl)
    (faultCount : ∀ x, (f x).faultCount = x.faultCount := by intro; rfl)
    (code : ∀ x, (f x).measurement.code = x.measurement.code := by intro; rfl)
    (sweep : ∀ x, (f x).sweep = x.sweep := by intro; rfl) : Evolves g p (q.modRadio r f) :=
  h.modRadio r fun x ok => ⟨code x ▸ ok.code, sweep x ▸ ok.pair, tagCounter x ▸ ok.tagCounter,
    faultCount x ▸ ok.faultCount⟩

theorem modCall (h : Evolves g p q) (k : RecId) (f : CallRec → CallRec) : Evolves g p (q.modCall k f) := by
  cases k <;> exact h.frame

theorem setCall (h : Evolves g p q) (k : RecId) (c : CallRec) : Evolves g p (q.setCall k c) := by
  cases k <;> exact h.frame

theorem setVoice (h : Evolves g p q) (d : Side) (v : Option RcuId) : Evolves g p (q.setVoice d v) := by
  cases d <;> exact h.frame

theorem setLine (h : Evolves g p q) (src : Source) (v : Microvolts) : Evolves g p (q.setLine src v) := h.frame

theorem raiseRadioChanged (h : Evolves g p q) : Evolves g p q.raiseRadioChanged := h.frame

theorem writeTest (h : Evolves g p q) (x : TestResult) : Evolves g p (q.writeTest x) := h.frame

/-- A change of the table that leaves every entry its key and its ranges, or removes it. -/
theorem withTable (h : Evolves g p q) {t : List (Option Entry)} (length : t.length = q.table.length)
    (old : ∀ i e, Part.entryAt { q with table := t } i = some e → ∃ f, q.entryAt i = some f ∧ e.key = f.key ∧
      (g.Ok → p.InRange → f.Ok → e.Ok)) : Evolves g p { q with table := t } := by
  refine h.extend (fun k => ⟨length.trans k.slots, fun i j a b ha hb same => ?_, k.stackDepth, k.stackKeys⟩)
    fun settings start n => ⟨fun e he => ?_, n.conversion, n.radio0, n.radio1, n.battery, n.passCount⟩
  · obtain ⟨a', ha', keyA, _⟩ := old i a ha
    obtain ⟨b', hb', keyB, _⟩ := old j b hb
    exact k.oneEntryPerKey i j a' b' ha' hb' (by rw [← keyA, same, keyB])
  · obtain ⟨i, hi⟩ := (mem_table_iff { q with table := t } e).mp he
    obtain ⟨f, hf, _, ok⟩ := old i e hi
    exact ok settings start (n.entry hf)

theorem prune (h : Evolves g p q) : Evolves g p q.prune :=
  h.withTable (by simp) fun i e he => ⟨e, q.entryAt_of_prune i e he, rfl, fun _ _ ok => ok⟩

theorem ageEntries (h : Evolves g p q) : Evolves g p q.ageEntries := by
  refine (h.withTable (t := q.table.map (Option.map Entry.older)) (by simp) fun i e he => ?_).prune
  rw [Part.entryAt_eq_some, List.getElem?_map, Option.map_eq_some_iff] at he
  obtain ⟨o, ho, mapped⟩ := he
  obtain ⟨f, rfl, rfl⟩ := Option.map_eq_some_iff.mp mapped
  exact ⟨f, (q.entryAt_eq_some i f).mpr ho, rfl, fun _ _ ok => ok.older⟩

theorem clearTable (h : Evolves g p q) : Evolves g p q.clearTable := by
  refine h.withTable (by simp) fun i e he => ?_
  have cleared := q.entryAt_clearTable i
  rw [show q.clearTable.entryAt i = some e from he] at cleared
  exact ⟨e, (Option.filter_eq_some_iff.mp cleared.symm).1, rfl, fun _ _ ok => ok⟩

/-- A change of one entry that keeps its key and its ranges. -/
theorem modEntry (h : Evolves g p q) (slot : Nat) {f : Entry → Entry} (key : ∀ e, (f e).key = e.key)
    (ok : g.Ok → p.InRange → ∀ e : Entry, e.Ok → (f e).Ok) : Evolves g p (q.modEntry slot f) := by
  refine h.withTable (by simp) fun i e he => ?_
  have changed := (q.entryAt_modEntry slot i f).symm.trans he
  split at changed
  · obtain ⟨e', he', rfl⟩ := Option.map_eq_some_iff.mp changed
    exact ⟨e', he', key e', fun settings n => ok settings n e'⟩
  · exact ⟨e, changed, rfl, fun _ _ ok => ok⟩

theorem modTarget (h : Evolves g p q) (t : Target) {f : Entry → Entry} (key : ∀ e, (f e).key = e.key)
    (ok : ∀ e : Entry, e.Ok → (f e).Ok) : Evolves g p (q.modTarget t f) := by
  cases t
  · exact h.modEntry _ key fun _ _ => ok
  · exact h
  · exact h

/-- A new entry in range for an absent key. -/
theorem insertNew (h : Evolves g p q) {e : Entry} (absent : q.slotOf e.key = none) (ok : g.Ok → p.InRange → e.Ok) :
    Evolves g p (q.insertNew g e) := by
  unfold Part.insertNew
  split
  · next slot _ =>
    have old : ∀ i f, Part.entryAt { q with table := q.table.set slot (some e) } i = some f →
        (i = slot ∧ f = e) ∨ q.entryAt i = some f := by
      intro i f hf
      rw [Part.entryAt_eq_some, List.getElem?_set] at hf
      split at hf
      · next same =>
        split at hf
        · cases hf; exact .inl ⟨same.symm, rfl⟩
        · cases hf
      · exact .inr ((q.entryAt_eq_some i f).mpr hf)
    refine h.extend (fun k => ⟨by simpa using k.slots, fun i j a b ha hb same => ?_, k.stackDepth, k.stackKeys⟩)
      fun settings start n => ⟨fun f hf => ?_, n.conversion, n.radio0, n.radio1, n.battery, n.passCount⟩
    · obtain ⟨hi, rfl⟩ | ha' := old i a ha <;> obtain ⟨hj, rfl⟩ | hb' := old j b hb
      · exact hi.trans hj.symm
      · exact absurd same.symm (slotOf_eq_none absent hb')
      · exact absurd same (slotOf_eq_none absent ha')
      · exact k.oneEntryPerKey i j a b ha' hb' same
    · obtain ⟨i, hi⟩ := (mem_table_iff { q with table := q.table.set slot (some e) } f).mp hf
      obtain ⟨_, rfl⟩ | old' := old i f hi
      · exact ok settings start
      · exact n.entry old'
  · exact h

theorem insertHeard (h : Evolves g p q) (key : Key) {l m : Nat} (carrier : Nat) (kind : AccessKind)
    (barring : Barring) (bounds : g.Ok → p.InRange → l ≤ 63 ∧ m ≤ 100) :
    Evolves g p (q.insertHeard g key l m carrier kind barring) := by
  unfold Part.insertHeard
  split
  · refine h.modEntry _ (fun _ => rfl) fun settings n e ok => ?_
    obtain ⟨level, quality⟩ := bounds settings n
    obtain ⟨hl, hq, ha, hf⟩ := ok.measured g false level quality
    exact ⟨hl, hq, ha, hf⟩
  · next absent =>
    refine h.insertNew absent fun settings n => ?_
    obtain ⟨level, quality⟩ := bounds settings n
    exact ⟨level, quality, Nat.zero_le _, Nat.zero_le _⟩

theorem insertBlind (h : Evolves g p q) (cell : CarrierKey) (kind : AccessKind) (barring : Barring) :
    Evolves g p (q.insertBlind g cell kind barring) := by
  unfold Part.insertBlind
  split
  · refine h.modEntry _ (fun _ => rfl) fun _ _ e ok => ?_
    obtain ⟨hl, hq, ha, _⟩ := ok
    exact ⟨hl, hq, ha, Nat.zero_le _⟩
  · next absent =>
    refine h.insertNew absent fun settings _ => ?_
    exact ⟨settings.levelFloor.2.trans (by decide), Nat.zero_le _, Nat.zero_le _, Nat.zero_le _⟩

/-- A change of the stack that leaves at most 4 keys, none twice. -/
theorem withStack (h : Evolves g p q) {stack : List CarrierKey}
    (ok : q.stack.length ≤ 4 → (q.stack.map (·.key)).Nodup → stack.length ≤ 4 ∧ (stack.map (·.key)).Nodup) :
    Evolves g p { q with stack := stack } := by
  refine h.trans ⟨fun k => ?_, fun _ n => ⟨n.entries, n.conversion, n.radio0, n.radio1, n.battery, n.passCount⟩⟩
  obtain ⟨depth, keys⟩ := ok k.stackDepth k.stackKeys
  exact ⟨k.slots, k.oneEntryPerKey, depth, keys⟩

/-- A stack with some of its keys left out. -/
theorem subStack (h : Evolves g p q) {stack : List CarrierKey} (sub : stack.Sublist q.stack) :
    Evolves g p { q with stack := stack } :=
  h.withStack fun depth keys => ⟨sub.length_le.trans depth, (sub.map _).nodup keys⟩

theorem pushStack (h : Evolves g p q) (c : CarrierKey) : Evolves g p (q.pushStack c) := by
  refine (h.withStack fun _ keys => ?_).prune
  have sub : ((q.stack.filter (·.key != c.key)).take 3).Sublist q.stack :=
    (List.take_sublist _ _).trans List.filter_sublist
  refine ⟨by simp [pushKey, Config.stackDepth], List.nodup_cons.mpr ⟨fun twice => ?_, (sub.map _).nodup keys⟩⟩
  obtain ⟨d, hd, same⟩ := List.mem_map.mp twice
  have := (List.mem_filter.mp (List.mem_of_mem_take hd)).2
  simp [same] at this

theorem dropStackKey (h : Evolves g p q) (key : Key) : Evolves g p (q.dropStackKey key) :=
  (h.subStack List.filter_sublist).prune

theorem campChoice (h : Evolves g p q) : Evolves g p (q.campChoice g) :=
  (h.subStack (List.dropWhile_sublist _)).prune

/-- A change of the converter that keeps the conversion in hand in range. -/
theorem withConverter (h : Evolves g p q) {c : Converter}
    (ok : (∀ x, q.converter.current = some x → x.Ok) → ∀ x, c.current = some x → x.Ok) :
    Evolves g p { q with converter := c } :=
  h.trans ⟨fun k => ⟨k.slots, k.oneEntryPerKey, k.stackDepth, k.stackKeys⟩, fun _ n =>
    ⟨n.entries, ok n.conversion, n.radio0, n.radio1, n.battery, n.passCount⟩⟩

theorem requestConversion (h : Evolves g p q) (src : Source) : Evolves g p (q.requestConversion src) := by
  refine h.withConverter fun old x hx => ?_
  unfold Converter.request at hx
  split at hx
  · cases hx; exact Conversion.ok_begin _ _
  · next cur hcur =>
    have keep : q.converter.current = some x := by
      split at hx
      · exact hx
      · split at hx <;> exact hx
    exact old x keep

theorem withdrawConversion (h : Evolves g p q) (src : Source) : Evolves g p (q.withdrawConversion src) := by
  refine h.withConverter fun old x hx => ?_
  obtain ⟨y, hy, rfl⟩ := Option.map_eq_some_iff.mp hx
  split <;> exact old y hy

theorem advance (h : Evolves g p q) (lines : AnalogLines) :
    Evolves g p { q with converter := q.converter.advance lines } := by
  refine h.withConverter fun _ x hx => ?_
  unfold Converter.advance at hx
  dsimp only at hx
  split at hx <;> cases hx
  exact Conversion.ok_begin _ _

/-- A change of the survey engine that keeps the pass count in range. -/
theorem withSurvey (h : Evolves g p q) {v : Survey} (ok : q.survey.passCount ≤ 3 → v.passCount ≤ 3) :
    Evolves g p { q with survey := v } :=
  h.trans ⟨fun k => ⟨k.slots, k.oneEntryPerKey, k.stackDepth, k.stackKeys⟩, fun _ n =>
    ⟨n.entries, n.conversion, n.radio0, n.radio1, n.battery, ok n.passCount⟩⟩

/-- A change of the Power Monitor that keeps the battery code in range. -/
theorem withPower (h : Evolves g p q) {m : PowerMonitor} (ok : g.Ok → p.InRange → m.battery ≤ 63) :
    Evolves g p { q with power := m } :=
  h.extend (fun k => ⟨k.slots, k.oneEntryPerKey, k.stackDepth, k.stackKeys⟩) fun settings start n =>
    ⟨n.entries, n.conversion, n.radio0, n.radio1, ok settings start, n.passCount⟩

end Part.Evolves

end Sys2Proof.Machine

/-! # Keys and ranges: the operations of the blocks -/

namespace Sys2Proof.Machine.Part.Evolves

set_option Elab.async false

variable {g : Settings} {p q : Part}

/-! ## RCUs -/

theorem offer (h : Evolves g p q) (r : RcuId) (o : Order) : Evolves g p (q.offer r o) :=
  h.modRadio r fun _ ok => ok.offer o

theorem abandon (h : Evolves g p q) (r : RcuId) : Evolves g p (q.abandon r) := h.modRadio r fun _ ok => ok.abandon

theorem unbeginItem (h : Evolves g p q) (r : RcuId) : Evolves g p (q.unbeginItem r) :=
  h.modRadio r fun _ ok => ok.unbegin

theorem abandonMeasurement (h : Evolves g p q) (r : RcuId) : Evolves g p (q.abandonMeasurement r) :=
  (h.withdrawConversion _).modRadio r fun _ ok => ⟨fun _ hn => (by cases hn), ok.pair, ok.tagCounter, ok.faultCount⟩

theorem endContinuous (h : Evolves g p q) (r : RcuId) : Evolves g p (q.endContinuous r) := by
  unfold Part.endContinuous
  split
  · exact h.abandonMeasurement r
  · exact h

theorem startContinuous (h : Evolves g p q) (r : RcuId) (key : Option Key) :
    Evolves g p (q.startContinuous r key) := by
  unfold Part.startContinuous
  split
  · exact (h.abandonMeasurement r).modRadio r fun _ ok =>
      ⟨fun _ hn => (by cases hn), ok.pair, ok.tagCounter, ok.faultCount⟩
  · exact h

theorem supplyOff (h : Evolves g p q) (r : RcuId) : Evolves g p (q.supplyOff r) :=
  (h.abandonMeasurement r).plainRadio r

theorem goOff (h : Evolves g p q) (r : RcuId) : Evolves g p (q.goOff r) := (h.supplyOff r).plainRadio r

theorem leaveInCall (h : Evolves g p q) (r : RcuId) : Evolves g p (q.leaveInCall r) :=
  (h.endContinuous r).plainRadio r

theorem applyOutcome (h : Evolves g p q) (r : RcuId) (o : Order) (x : ModuleOutcome) :
    Evolves g p (q.applyOutcome r o x) := by
  unfold Part.applyOutcome
  split
  case h_6 => exact h.leaveInCall r
  case h_7 => exact h
  all_goals exact h.plainRadio r

theorem prove (h : Evolves g p q) (r : RcuId) : Evolves g p (q.prove r) := by
  have proved : Evolves g p (q.modRadio r fun x => { x with proving := false, faultCount := 0 }) :=
    h.modRadio r fun _ ok => ⟨ok.code, ok.pair, ok.tagCounter, Nat.zero_le _⟩
  unfold Part.prove
  dsimp only
  split
  · split
    · exact proved
    · exact proved.raiseRadioChanged
  · exact h

theorem holderLeaves (h : Evolves g p q) (r : RcuId) : Evolves g p (q.holderLeaves r) := by
  refine ((h.abandon r).endContinuous r).modRadio r fun x ok => ?_
  split
  · exact ⟨ok.code, ok.pair, ok.tagCounter, ok.faultCount⟩
  · exact ok

theorem assign (h : Evolves g p q) (r : RcuId) (x : Holder) : Evolves g p (q.assign r x) :=
  h.modRadio r fun _ ok => Radio.Ok.bringUp ⟨ok.code, ok.pair, ok.tagCounter, ok.faultCount⟩

theorem releaseRcu (h : Evolves g p q) (r : RcuId) : Evolves g p (q.releaseRcu r) := (h.holderLeaves r).plainRadio r

theorem modSweep (h : Evolves g p q) (r : RcuId) {f : Sweep → Sweep}
    (pair : ∀ c l m, (f c).pair = some (l, m) → c.pair = some (l, m)) : Evolves g p (q.modSweep r f) :=
  h.modRadio r fun _ ok => ok.mapSweep pair

theorem newSweep (h : Evolves g p q) (r : RcuId) (kind : SweepKind) :
    Evolves g p (q.modRadio r fun x => { x with sweep := some (Sweep.create kind) }) :=
  h.modRadio r fun _ ok => ok.newSweep fun _ hd => by cases hd; rfl

theorem removeSweep (h : Evolves g p q) (r : RcuId) : Evolves g p (q.removeSweep r) := by
  unfold Part.removeSweep
  split
  · exact (h.abandonMeasurement r).modRadio r fun _ ok => ok.newSweep fun _ hd => by cases hd
  · exact h

/-! ## Records -/

theorem emptyPlan (h : Evolves g p q) (k : RecId) : Evolves g p (q.emptyPlan k) := (h.modCall k _).prune

theorem buildPlan (h : Evolves g p q) (k : RecId) : Evolves g p (q.buildPlan g k) := (h.modCall k _).prune

theorem buildRegainPlan (h : Evolves g p q) (k : RecId) : Evolves g p (q.buildRegainPlan g k) := (h.modCall k _).prune

theorem recordIdle (h : Evolves g p q) (k : RecId) : Evolves g p (q.recordIdle k) := (h.emptyPlan k).modCall k _

theorem seek (h : Evolves g p q) (k : RecId) : Evolves g p (q.seek g k) := by
  unfold Part.seek
  split
  · exact (h.buildRegainPlan k).modCall k _
  · exact h.modCall k _

theorem startCall (h : Evolves g p q) (k : RecId) : Evolves g p (q.startCall k) := h.frame.setCall k _

theorem failTry (h : Evolves g p q) (k : RecId) (cause : Cause) : Evolves g p (q.failTry k cause) := h.modCall k _

/-! ## The Arbiter -/

theorem surveyIdle (h : Evolves g p q) : Evolves g p (q.surveyIdle g) := h.frame

theorem surveyLosesRcu (h : Evolves g p q) (r : RcuId) : Evolves g p (q.surveyLosesRcu g r) :=
  (h.removeSweep r).surveyIdle

theorem surveyReleases (h : Evolves g p q) (r : RcuId) : Evolves g p (q.surveyReleases g r) :=
  (h.surveyLosesRcu r).releaseRcu r

theorem surveyGranted (h : Evolves g p q) (r : RcuId) : Evolves g p (q.surveyGranted r) :=
  (h.withSurvey (v := { q.survey with state := .sweeping }) id).newSweep r _

theorem leaveQueue (h : Evolves g p q) (x : Holder) : Evolves g p (q.leaveQueue x) := h.frame

theorem granted (h : Evolves g p q) (x : Holder) (r : RcuId) : Evolves g p (q.granted g x r) := by
  cases x
  case survey => exact h.surveyGranted r
  case window => exact h
  all_goals exact h.seek _

theorem grant (h : Evolves g p q) (x : Holder) (r : RcuId) : Evolves g p (q.grant g x r) :=
  ((h.leaveQueue x).assign r x).granted x r

theorem testPreempted (h : Evolves g p q) (r : RcuId) : Evolves g p (q.testPreempted r) := by
  unfold Part.testPreempted
  dsimp only
  split
  · exact (((h.removeSweep r).recordIdle .test).writeTest _).modCall .test _
  · exact (h.removeSweep r).recordIdle .test

theorem losesToPreemption (h : Evolves g p q) (old : Holder) (r : RcuId) :
    Evolves g p (q.losesToPreemption g old r) := by
  cases old
  case survey => exact h.surveyLosesRcu r
  case test => exact h.testPreempted r
  case window => exact h.frame
  all_goals exact h

theorem preempt (h : Evolves g p q) (x : Holder) (r : RcuId) : Evolves g p (q.preempt g x r) := by
  have moved := ((h.unbeginItem r).holderLeaves r).assign r x
  unfold Part.preempt
  dsimp only
  split
  · exact ((moved.losesToPreemption _ r).leaveQueue x).granted x r
  · exact (moved.leaveQueue x).granted x r

theorem claim (h : Evolves g p q) (w : Waiting) : Evolves g p (q.claim g w) := by
  unfold Part.claim
  split
  · exact h
  · split
    · exact h.grant _ _
    · split
      · exact h.preempt _ _
      · exact h.frame

theorem handOver (h : Evolves g p q) (giving receiving : Holder) (r : RcuId) :
    Evolves g p (q.handOver giving receiving r) := by
  unfold Part.handOver
  split
  · exact (h.holderLeaves r).assign r receiving
  · split
    · exact h.releaseRcu r
    · exact h

theorem requestSweep (h : Evolves g p q) (kind : BackgroundKind) : Evolves g p (q.requestSweep g kind) := by
  unfold Part.requestSweep
  split <;> first | exact h | exact h.frame.claim _

/-! ## Sweeps -/

theorem beginItem (h : Evolves g p q) (r : RcuId) (cursor : Nat) (item : SweepItem) :
    Evolves g p (q.beginItem r cursor item) :=
  (h.modSweep r fun _ _ _ hp => by cases hp).modRadio r fun _ ok => ok.measure item

theorem completeSweep (h : Evolves g p q) (r : RcuId) (kind : SweepKind) : Evolves g p (q.completeSweep g r kind) := by
  cases kind with
  | full => exact h.surveyReleases r
  | refresh => exact h.surveyReleases r
  | call k =>
    unfold Part.completeSweep
    dsimp only
    split
    · exact ((h.removeSweep r).buildPlan k).modCall k _
    · exact h.removeSweep r

theorem sweepAdvances (h : Evolves g p q) (r : RcuId) : Evolves g p (q.sweepAdvances g r) := by
  unfold Part.sweepAdvances
  split
  · exact h
  · split
    · exact h.beginItem r _ _
    · exact h.completeSweep r _

theorem endItem (h : Evolves g p q) (r : RcuId) : Evolves g p (q.modSweep r Sweep.endItem) :=
  h.modSweep r fun _ _ _ hp => by cases hp

theorem itemEnds (h : Evolves g p q) (r : RcuId) (key : Key) : Evolves g p (q.itemEnds g r key) := by
  unfold Part.itemEnds
  split
  · exact h
  · split
    · exact h.endItem r
    · exact h.endItem r
    · split
      · next c _ _ _ =>
        have ended : Evolves g p (q.modSweep r fun c => { c.endItem with yields := satInc 2 c.yields }) :=
          h.modSweep r fun _ _ _ hp => by cases hp
        dsimp only
        split
        · exact ended.completeSweep r _
        · exact ended
      · exact h.endItem r

theorem takePair (h : Evolves g p q) (r : RcuId) (key : Key) {l m : Nat}
    (bounds : g.Ok → p.InRange → l ≤ 63 ∧ m ≤ 100) : Evolves g p (q.takePair g r key l m) := by
  unfold Part.takePair
  split
  · exact h
  · split
    · split
      · have measured : ∀ slot refresh, Evolves g p (q.modEntry slot (Entry.measured g refresh l m)) :=
          fun slot refresh => h.modEntry slot (fun _ => rfl) fun settings start _ ok =>
            ok.measured g refresh (bounds settings start).1 (bounds settings start).2
        exact (measured _ _).itemEnds r key
      · split
        · exact h.endItem r
        · refine (h.modRadioIn r fun settings start => ?_).offer r _
          have ok := (h.inRange settings start).radio r
          refine ⟨ok.code, fun c a b hc hp => ?_, ok.tagCounter, ok.faultCount⟩
          obtain ⟨_, _, rfl⟩ := Option.map_eq_some_iff.mp hc
          cases hp
          exact bounds settings start
    · exact h

theorem sweepHeard (h : Evolves g p q) (r : RcuId) (carrier : Nat) (kind : AccessKind) (barring : Barring) :
    Evolves g p (q.sweepHeard g r carrier kind barring) := by
  unfold Part.sweepHeard
  split
  · exact h
  · next c hc =>
    split
    · next item lq _ _ pair =>
      exact (h.insertHeard _ _ _ _ fun settings start =>
        ((h.inRange settings start).radio r).pair c lq.1 lq.2 hc pair).itemEnds r _
    · exact h

theorem sweepNotHeard (h : Evolves g p q) (r : RcuId) : Evolves g p (q.sweepNotHeard r) := by
  refine h.modSweep r fun c l m hp => ?_
  split at hp
  · cases hp
  · exact hp

theorem formPair (h : Evolves g p q) (r : RcuId) : Evolves g p (q.formPair g r) := by
  unfold Part.formPair
  dsimp only
  split
  · next key code count _ _ hcode _ =>
    have handed : Evolves g p (q.modRadio r fun x => { x with measurement := Measurement.cleared }) :=
      h.modRadio r fun _ ok => ⟨fun _ hn => (by cases hn), ok.pair, ok.tagCounter, ok.faultCount⟩
    exact handed.takePair r key fun settings start =>
      ⟨((h.inRange settings start).radio r).code code hcode, qualityOf_le _ _⟩
  · exact h

/-! ## The Survey Engine -/

theorem surveyExpires (h : Evolves g p q) : Evolves g p (q.surveyExpires g) := by
  have counted : Evolves g p { q with survey := { q.survey with passCount := nextPass q.survey.passCount } } :=
    h.withSurvey fun _ => nextPass_le _
  unfold Part.surveyExpires
  dsimp only
  split
  · exact h
  · split
    · exact h
    · exact counted
    · exact counted
    · exact counted
    · exact counted.requestSweep _

theorem listChanged (h : Evolves g p q) (had : Bool) : Evolves g p (q.listChanged g had) := by
  unfold Part.listChanged
  split
  · split
    · exact h.frame
    · exact h.requestSweep _
  · exact h.frame
  · exact h

theorem sweepEnding (h : Evolves g p q) (r : RcuId) : Evolves g p (q.sweepEnding r) :=
  (((h.abandon r).abandonMeasurement r).modSweep r fun _ _ _ hp => by cases hp).withSurvey id

theorem shedSweep (h : Evolves g p q) : Evolves g p (q.shedSweep g) := by
  unfold Part.shedSweep
  split <;> try exact h
  · exact (h.leaveQueue _).surveyIdle
  · split
    · exact h
    · split
      · exact h
      · split
        · exact h.surveyReleases _
        · exact h.surveyReleases _
        · exact h.sweepEnding _

/-! ## The callback window -/

theorem closeWindow (h : Evolves g p q) : Evolves g p q.closeWindow := by
  have closed : Evolves g p { q with window := none } := h.frame
  unfold Part.closeWindow
  split
  · exact h
  · dsimp only
    split
    · exact closed
    all_goals
      split
      · exact closed.releaseRcu _
      · exact closed

theorem closeLent (h : Evolves g p q) (k : RecId) : Evolves g p (q.closeLent k) := by
  unfold Part.closeLent
  split
  · split
    · exact h.frame
    · exact h
  · exact h

theorem campFailure (h : Evolves g p q) : Evolves g p (q.campFailure g) := by
  unfold Part.campFailure
  split
  · exact h
  · next w _ =>
    have chosen := (h.dropStackKey w.campKey.key).campChoice
    dsimp only
    split
    · exact chosen.frame
    · exact chosen.closeWindow

theorem openWindow (h : Evolves g p q) (d : Side) (r : RcuId) (c : CarrierKey) :
    Evolves g p (q.openWindow g d r c) := by
  have handed := h.closeWindow.handOver d.record.holder .window r
  unfold Part.openWindow
  dsimp only
  split
  · exact handed.frame
  · exact handed

theorem returnToWindow (h : Evolves g p q) (d : Side) (r : RcuId) : Evolves g p (q.returnToWindow d r) :=
  (h.handOver d.record.holder .window r).frame

theorem windowPaged (h : Evolves g p q) (r : RcuId) : Evolves g p (q.windowPaged r) := by
  unfold Part.windowPaged
  split
  · exact h
  · split
    · next d _ => exact (h.handOver .window d.record.holder r).frame.setCall d.record _
    · exact h.frame.offer r _

/-! ## Calls -/

theorem leaveConnected (h : Evolves g p q) (k : RecId) (r : RcuId) : Evolves g p (q.leaveConnected k r) := by
  unfold Part.leaveConnected
  dsimp only
  split
  · exact ((h.setVoice _ _).endContinuous r).modCall k _
  · exact (h.endContinuous r).modCall k _

theorem dropCallSweep (h : Evolves g p q) (k : RecId) (r : RcuId) : Evolves g p (q.dropCallSweep k r) := by
  unfold Part.dropCallSweep
  split
  · exact (h.unbeginItem r).removeSweep r
  · exact h

theorem enterClearing (h : Evolves g p q) (k : RecId) : Evolves g p (q.enterClearing k) := by
  have cleared := (h.emptyPlan k).modCall k CallRec.toClearing
  unfold Part.enterClearing
  dsimp only
  split
  · exact (cleared.dropCallSweep k _).modRadio _ fun _ ok => ok.clear
  · exact cleared

theorem giveUpRcu (h : Evolves g p q) (k : RecId) (d : Option Side) (r : RcuId) : Evolves g p (q.giveUpRcu k d r) := by
  unfold Part.giveUpRcu
  split
  · split
    · exact h.returnToWindow _ r
    · exact (h.closeLent k).releaseRcu r
  · exact h.releaseRcu r

theorem passOn (h : Evolves g p q) (k : RecId) (r : RcuId) : Evolves g p (q.passOn g k r) := by
  unfold Part.passOn
  split
  · dsimp only
    split
    · exact h.campChoice.openWindow _ r _
    · exact h.campChoice.giveUpRcu k _ r
  · exact h.giveUpRcu k _ r

theorem leaveClearing (h : Evolves g p q) (k : RecId) : Evolves g p (q.leaveClearing g k) := by
  unfold Part.leaveClearing
  split
  · exact (h.passOn k _).recordIdle k
  · exact h.recordIdle k

theorem beginRound (h : Evolves g p q) (k : RecId) (r : RcuId) : Evolves g p (q.beginRound g k r) := by
  unfold Part.beginRound
  dsimp only
  split
  · exact ((h.modCall k _).modCall k _).newSweep r _
  · exact ((h.modCall k _).buildPlan k).modCall k _

theorem beginTry (h : Evolves g p q) (k : RecId) (r : RcuId) (x : PlanItem × Nat) :
    Evolves g p (q.beginTry g k r x) := by
  unfold Part.beginTry
  split
  · exact h
  · exact (h.modCall k _).offer r _

theorem beginBlind (h : Evolves g p q) (k : RecId) (r : RcuId) : Evolves g p (q.beginBlind k r) :=
  (h.modCall k _).offer r _

theorem endTestRound (h : Evolves g p q) : Evolves g p q.endTestRound :=
  ((h.modCall .test _).writeTest _).enterClearing .test

theorem endRound (h : Evolves g p q) (k : RecId) : Evolves g p (q.endRound k) := by
  unfold Part.endRound
  cases k
  · exact (h.modCall .sideA _).modCall .sideA _
  · exact (h.modCall .sideB _).modCall .sideB _
  · exact (h.modCall .test _).endTestRound

theorem beginNext (h : Evolves g p q) (k : RecId) (r : RcuId) : Evolves g p (q.beginNext g k r) := by
  unfold Part.beginNext
  dsimp only
  split
  · split
    · exact (h.modCall .test _).endRound .test
    · exact h.beginBlind k r
  · split
    · exact h.beginTry k r _
    · exact h.endRound k

theorem offerDial (h : Evolves g p q) (k : RecId) (r : RcuId) : Evolves g p (q.offerDial g k r) := by
  unfold Part.offerDial
  split
  · exact h
  · dsimp only
    split
    · exact h.failTry k _
    · exact (h.modCall k _).offer r _

theorem blindAccepted (h : Evolves g p q) (k : RecId) (a : Attempt) (cell : CarrierKey) (kind : AccessKind)
    (barring : Barring) : Evolves g p (q.blindAccepted g k a cell kind barring) := by
  unfold Part.blindAccepted
  dsimp only
  split <;> exact (h.insertBlind cell kind barring).modCall k _

theorem attachAccepted (h : Evolves g p q) (k : RecId) (r : RcuId)
    (report : Option (CarrierKey × AccessKind × Barring)) : Evolves g p (q.attachAccepted g k r report) := by
  unfold Part.attachAccepted
  split
  · exact h
  · split
    · exact (h.blindAccepted k _ _ _ _).offerDial k r
    · exact ((h.modTarget _ (f := Entry.accepted) (fun _ => rfl) fun _ ok =>
        ⟨ok.1, ok.2.1, ok.2.2.1, Nat.zero_le _⟩).modCall k _).offerDial k r

theorem attachFails (h : Evolves g p q) (k : RecId) (cause : Cause) {f : Entry → Entry}
    (key : ∀ e, (f e).key = e.key) (ok : ∀ e : Entry, e.Ok → (f e).Ok) : Evolves g p (q.attachFails k cause f) := by
  unfold Part.attachFails
  split
  · exact h
  · exact (h.modTarget _ key ok).failTry k cause

theorem attachRefused (h : Evolves g p q) (k : RecId) (r : RcuId) (cause : Cause) {f : Access → Entry → Entry}
    (key : ∀ a e, (f a e).key = e.key) (ok : ∀ a (e : Entry), e.Ok → (f a e).Ok) :
    Evolves g p (q.attachRefused k r cause f) := by
  unfold Part.attachRefused
  split
  · exact h
  · split
    · exact ((h.modTarget _ (key _) (ok _)).modCall k _).offer r _
    · exact h.attachFails k cause (key _) (ok _)

theorem announce (h : Evolves g p q) (k : RecId) (r : RcuId) : Evolves g p (q.announce g k r) := by
  unfold Part.announce
  split
  · exact h
  · exact (h.modCall k _).offer r _

theorem opsFails (h : Evolves g p q) (k : RecId) (r : RcuId) (cause : Cause) (a : Attempt) :
    Evolves g p (q.opsFails k r cause a) := (h.modCall k _).offer r _

theorem dialRejected (h : Evolves g p q) (k : RecId) (r : RcuId) : Evolves g p (q.dialRejected k r) := by
  unfold Part.dialRejected
  split
  · exact h
  · split
    · exact h.opsFails k r _ _
    · exact h.failTry k _
    · exact (h.modTarget _ (f := Entry.failed) (fun _ => rfl) fun _ ok => ok.failed).failTry k _

theorem noAnswer (h : Evolves g p q) (k : RecId) (r : RcuId) : Evolves g p (q.noAnswer k r) := by
  unfold Part.noAnswer
  split
  · exact h
  · split
    · exact h.opsFails k r _ _
    · exact (h.modCall k _).offer r _

theorem releaseDone (h : Evolves g p q) (k : RecId) : Evolves g p (q.releaseDone k) := by
  unfold Part.releaseDone
  split
  · split
    · exact h
    · exact h.failTry k _
  · exact h

theorem connect (h : Evolves g p q) (k : RecId) (d : Side) (r : RcuId) (a : Attempt) :
    Evolves g p (q.connect k d r a) := by
  have closed := fun f => (h.setVoice d (some r)).modCall k f
  unfold Part.connect
  dsimp only
  split
  · exact ((closed _).pushStack _).startContinuous r _
  · exact (closed _).startContinuous r _

theorem noteEnds (h : Evolves g p q) (k : RecId) (r : RcuId) (delivered : Bool) :
    Evolves g p (q.noteEnds k r delivered) := by
  unfold Part.noteEnds
  generalize hu : (if delivered then q else q.modCall k fun c => { c with lastCause := .noteFailed }) = u
  have told : Evolves g p u := by
    subst hu
    split
    · exact h
    · exact h.modCall k _
  dsimp only
  split
  · exact told.connect k _ r _
  · exact told
  · exact (told.writeTest _).enterClearing k

theorem callbackAnswered (h : Evolves g p q) (k : RecId) (r : RcuId) : Evolves g p (q.callbackAnswered k r) := by
  unfold Part.callbackAnswered
  split
  · exact (h.modCall k _).connect k _ r _
  · exact h

theorem drop (h : Evolves g p q) (k : RecId) (r : RcuId) : Evolves g p (q.drop g k r) := by
  unfold Part.drop
  dsimp only
  split
  · exact ((h.leaveConnected k r).modCall k _).buildRegainPlan k
  · exact (h.modCall k _).buildRegainPlan k

theorem recordLinkLost (h : Evolves g p q) (k : RecId) (r : RcuId) : Evolves g p (q.recordLinkLost g k r) := by
  unfold Part.recordLinkLost
  split
  · exact h.drop k r
  · exact h.drop k r
  · exact h.drop k r
  · exact h.failTry k _
  · exact h.noteEnds k r false
  · exact h

theorem recordFarRelease (h : Evolves g p q) (k : RecId) (r : RcuId) : Evolves g p (q.recordFarRelease g k r) := by
  unfold Part.recordFarRelease
  split
  · exact ((h.leaveConnected k r).modCall k _).enterClearing k
  · exact h.recordLinkLost k r

theorem recordTakes (h : Evolves g p q) (k : RecId) (r : RcuId) (o : Order) (x : ModuleOutcome) :
    Evolves g p (q.recordTakes g k r o x) := by
  unfold Part.recordTakes
  split
  · exact h.attachAccepted k r _
  · exact h.attachAccepted k r _
  · exact h.attachRefused k r _ (fun a e => Entry.key_barredAt a e) fun a _ ok => ok.barredAt a
  · exact h.attachRefused k r _ (fun _ _ => rfl) fun _ _ ok => ok
  · exact h.attachFails k _ (fun _ => rfl) fun _ ok => ok.failed
  · exact h.attachFails k _ (fun _ => rfl) fun _ ok => ok.notFound
  · exact h.modCall k _
  · exact h.announce k r
  · exact h.dialRejected k r
  · exact h.releaseDone k
  · exact h.noteEnds k r true
  · exact h.noteEnds k r false
  · exact h.callbackAnswered k r
  · exact h

theorem windowTakes (h : Evolves g p q) (o : Order) (x : ModuleOutcome) : Evolves g p (q.windowTakes g o x) := by
  unfold Part.windowTakes
  split
  · exact h.frame
  · exact h.campFailure
  · exact h

theorem sweepTakes (h : Evolves g p q) (r : RcuId) (x : ModuleOutcome) : Evolves g p (q.sweepTakes g r x) := by
  unfold Part.sweepTakes
  split
  · exact h.sweepHeard r _ _ _
  · exact h.sweepNotHeard r
  · exact h

theorem takeSettled (h : Evolves g p q) (r : RcuId) : Evolves g p (q.takeSettled r) := by
  unfold Part.takeSettled
  dsimp only
  split
  · refine (h.requestConversion _).modRadioIn r fun settings start => ?_
    have ok := (h.inRange settings start).radio r
    rw [Part.radio_requestConversion]
    exact ⟨ok.code, ok.pair, ok.tagCounter, ok.faultCount⟩
  · exact h

theorem report (h : Evolves g p q) (r : RcuId) (o : Order) (x : ModuleOutcome) : Evolves g p (q.report g r o x) := by
  unfold Part.report
  split
  · exact h.takeSettled r
  · exact h.sweepTakes r x
  · split
    · exact h.recordTakes .sideA r o x
    · exact h.recordTakes .sideB r o x
    · exact h.recordTakes .test r o x
    · exact h.windowTakes o x
    · exact h
    · exact h

/-! ## Faults, notices and answers -/

theorem revokeSeeker (h : Evolves g p q) (k : RecId) : Evolves g p (q.revokeSeeker k) := (h.emptyPlan k).modCall k _

theorem revokeConnected (h : Evolves g p q) (k : RecId) : Evolves g p (q.revokeConnected g k) := by
  unfold Part.revokeConnected
  dsimp only
  split
  · exact ((h.setVoice _ _).emptyPlan k).modCall k _
  · exact (h.emptyPlan k).modCall k _

theorem requeue (h : Evolves g p q) (k : RecId) : Evolves g p (q.requeue g k) := h.claim _

theorem requeueUndone (h : Evolves g p q) (k : RecId) : Evolves g p (q.requeueUndone g k) := by
  have given := ((h.modCall k fun c => { c with lastCause := .moduleFault }).requeue k).leaveQueue k.holder
  unfold Part.requeueUndone
  dsimp only
  split
  · exact (given.releaseRcu _).recordIdle k
  · exact given.recordIdle k

theorem recordRevoked (h : Evolves g p q) (k : RecId) : Evolves g p (q.recordRevoked g k) := by
  have closed := h.closeLent k
  unfold Part.recordRevoked
  dsimp only
  split
  case h_6 => exact (closed.revokeConnected k).requeue k
  case h_7 => exact closed.requeueUndone k
  case h_8 => exact closed.requeueUndone k
  case h_9 => exact closed
  case h_10 => exact closed
  all_goals exact (closed.revokeSeeker k).requeue k

theorem tellRevoked (h : Evolves g p q) (old : Option Holder) (r : RcuId) : Evolves g p (q.tellRevoked g old r) := by
  unfold Part.tellRevoked
  split
  · exact (h.removeSweep r).recordRevoked _
  · exact (h.removeSweep r).recordRevoked _
  · exact (h.removeSweep r).recordRevoked _
  · exact h.surveyLosesRcu r
  · exact h.frame
  · exact h

theorem moduleFault (h : Evolves g p q) (r : RcuId) : Evolves g p (q.moduleFault g r) :=
  (((h.supplyOff r).modRadio r fun _ ok => ok.faulted).tellRevoked _ r).raiseRadioChanged

theorem readyFaults (h : Evolves g p q) (r : RcuId) : Evolves g p (q.readyFaults g r) :=
  (h.unbeginItem r).moduleFault r

theorem returnRadio (h : Evolves g p q) (r : RcuId) : Evolves g p (q.returnRadio r) := by
  refine (h.modRadio r fun x ok => ?_).raiseRadioChanged
  split <;> exact ⟨ok.code, ok.pair, ok.tagCounter, ok.faultCount⟩

theorem restoreRadio (h : Evolves g p q) (r : RcuId) : Evolves g p (q.restoreRadio r) := by
  unfold Part.restoreRadio
  split
  · exact (h.modRadio r (f := fun x => { x with faultCount := 0, proving := false }) fun _ ok =>
      ⟨ok.code, ok.pair, ok.tagCounter, Nat.zero_le _⟩).returnRadio r
  · exact h

theorem takeReady (h : Evolves g p q) (r : RcuId) : Evolves g p (q.takeReady g r) := by
  unfold Part.takeReady
  split
  case h_1 => exact h.plainRadio r
  case h_7 => exact h
  case h_8 => exact h
  case h_9 => exact h
  all_goals exact h.readyFaults r

theorem takeLoss (h : Evolves g p q) (far : Bool) (r : RcuId) : Evolves g p (q.takeLoss g far r) := by
  have left := fun f => (h.leaveInCall r).plainRadio r (f := fun x => { x with slot := f })
  unfold Part.takeLoss
  split
  · dsimp only
    split
    · exact (left _).recordTakes _ r _ _
    · split
      · exact (left _).recordFarRelease _ r
      · exact (left _).recordLinkLost _ r
    · exact left _
  · exact h

theorem takeAnswered (h : Evolves g p q) (r : RcuId) : Evolves g p (q.takeAnswered g r) := by
  have stopped : Evolves g p (q.modRadio r fun x => { x with answerTimer := none }) := h.plainRadio r
  unfold Part.takeAnswered
  dsimp only
  split
  · split
    · split
      · exact stopped.announce _ r
      · exact stopped
    · exact stopped
  · exact h

theorem takePaged (h : Evolves g p q) (r : RcuId) : Evolves g p (q.takePaged r) := by
  have awake : Evolves g p (q.modRadio r fun x => { x with condition := .awake }) := h.plainRadio r
  unfold Part.takePaged
  dsimp only
  split
  · split
    · exact awake.windowPaged r
    · exact awake
  · exact h

theorem takeCellLost (h : Evolves g p q) (r : RcuId) : Evolves g p (q.takeCellLost g r) := by
  have awake : Evolves g p (q.modRadio r fun x => { x with condition := .awake }) := h.plainRadio r
  unfold Part.takeCellLost
  dsimp only
  split
  · split
    · exact awake.campFailure
    · exact awake
  · exact h

theorem takeNotice (h : Evolves g p q) (n : Notice) (r : RcuId) : Evolves g p (q.takeNotice g n r) := by
  cases n
  · exact h.takeReady r
  · exact h.takeLoss false r
  · exact h.takeLoss true r
  · exact h.takeAnswered r
  · exact h.takePaged r
  · exact h.takeCellLost r

theorem startAnswerTimer (h : Evolves g p q) (r : RcuId) (x : ModuleOutcome) :
    Evolves g p (q.startAnswerTimer g r x) := by
  unfold Part.startAnswerTimer
  split
  · exact h.plainRadio r
  · exact h

theorem takeOutcome (h : Evolves g p q) (r : RcuId) (o : Pending) (x : ModuleOutcome) :
    Evolves g p (q.takeOutcome g r o x) := by
  have emptied : Evolves g p (q.modRadio r fun y => { y with slot := none }) := h.plainRadio r
  have changed := ((emptied.applyOutcome r o.order x).startAnswerTimer r x).prove r
  unfold Part.takeOutcome
  dsimp only
  split
  · exact changed.report r _ x
  · exact changed

theorem takeCancelDone (h : Evolves g p q) (r : RcuId) (o : Pending) : Evolves g p (q.takeCancelDone r o) := by
  refine (h.modRadio r fun x ok => ?_).prove r
  have emptied : Radio.Ok { x with slot := none } := ⟨ok.code, ok.pair, ok.tagCounter, ok.faultCount⟩
  dsimp only
  split
  · exact emptied.send _ _
  · exact emptied

theorem outcomeArrives (h : Evolves g p q) (r : RcuId) (x : ModuleOutcome) (tag : Nat) :
    Evolves g p (q.outcomeArrives g r x tag) := by
  unfold Part.outcomeArrives
  split
  · split
    · split
      · exact h.takeCancelDone r _
      · exact h
    · split
      · exact h.takeOutcome r _ x
      · exact h
  · exact h

theorem takeFrame (h : Evolves g p q) (r : RcuId) (f : ModuleFrame) : Evolves g p (q.takeFrame g r f) := by
  cases f
  · exact h.modRadio r fun _ ok => ok.acknowledge _
  · exact h.outcomeArrives r _ _
  · exact h.takeNotice _ r

theorem frameArrives (h : Evolves g p q) (r : RcuId) (bytes : List Byte) : Evolves g p (q.frameArrives g r bytes) := by
  unfold Part.frameArrives
  split
  · split
    · exact h.takeFrame r _
    · exact h
  · exact h

theorem attachTimeout (h : Evolves g p q) (r : RcuId) : Evolves g p (q.attachTimeout r) := by
  unfold Part.attachTimeout
  split
  · split
    · exact h.attachFails _ _ (fun _ => rfl) fun _ ok => ok.failed
    · exact h
  · exact h

theorem reportSubstitute (h : Evolves g p q) (r : RcuId) (o : Order) : Evolves g p (q.reportSubstitute g r o) := by
  unfold Part.reportSubstitute
  split <;> first | exact h | exact h.report r _ _ | exact h.attachTimeout r

theorem failureExpires (h : Evolves g p q) (r : RcuId) (o : Pending) : Evolves g p (q.failureExpires g r o) := by
  unfold Part.failureExpires
  split
  · exact ((h.reportSubstitute r _).applyOutcome r _ _).abandon r
  · exact (h.plainRadio r).applyOutcome r _ _

theorem failureExpiry (h : Evolves g p q) (r : RcuId) : Evolves g p (q.failureExpiry g r) := by
  unfold Part.failureExpiry
  split
  · exact h.failureExpires r _
  · exact h

theorem answerExpires (h : Evolves g p q) (r : RcuId) : Evolves g p (q.answerExpires r) := by
  have stopped : Evolves g p (q.modRadio r fun x => { x with answerTimer := none }) := h.plainRadio r
  unfold Part.answerExpires
  dsimp only
  split
  · split
    · exact stopped.noAnswer _ r
    · exact stopped
  · exact stopped

/-! ## Power and conversions -/

theorem levelChanged (h : Evolves g p q) (old : PowerLevel) : Evolves g p (q.levelChanged g old) := by
  unfold Part.levelChanged
  split
  · exact h.shedSweep.closeWindow
  · exact h

theorem battery_sample (m : PowerMonitor) (b : Nat) : (m.sample g b).battery = b := by
  unfold PowerMonitor.sample
  dsimp only
  split
  · rfl
  · rfl
  · split <;> rfl

theorem takeBattery (h : Evolves g p q) {b : Nat} (code : g.Ok → p.InRange → b ≤ 63) :
    Evolves g p (q.takeBattery g b) := by
  refine (h.withPower fun settings start => ?_).levelChanged _
  rw [battery_sample]
  exact code settings start

theorem takeWindow (h : Evolves g p q) (k : RecId) (key : Key) {l m : Nat}
    (bounds : g.Ok → p.InRange → l ≤ 63 ∧ m ≤ 100) : Evolves g p (q.takeWindow k key l m) := by
  have monitored : ∀ slot, Evolves g p (q.modEntry slot (Entry.monitored l m)) := by
    refine fun slot => h.modEntry slot (fun _ => rfl) fun settings start e ok => ?_
    obtain ⟨level, quality⟩ := bounds settings start
    exact ⟨level, quality, Nat.zero_le _, ok.2.2.2⟩
  unfold Part.takeWindow
  split
  · dsimp only
    split
    · exact (monitored _).modCall k _
    · exact h.modCall k _
  · exact h

theorem monitorCode (h : Evolves g p q) (r : RcuId) {code : Nat} (bound : g.Ok → p.InRange → code ≤ 63) :
    Evolves g p (q.monitorCode r code) := by
  unfold Part.monitorCode
  dsimp only
  split
  · have cleared := fun m : Measurement => h.modRadio r
      (f := fun x => { x with measurement := { m with code := none, count := none } }) fun _ ok =>
        ⟨fun _ hn => (by cases hn), ok.pair, ok.tagCounter, ok.faultCount⟩
    split
    · exact (cleared _).takeWindow _ _ fun settings start => ⟨bound settings start, qualityOf_le _ _⟩
    · exact cleared _
  · exact h

theorem takeLevelCode (h : Evolves g p q) (r : RcuId) {code : Nat} (bound : g.Ok → p.InRange → code ≤ 63) :
    Evolves g p (q.takeLevelCode g r code) := by
  unfold Part.takeLevelCode
  dsimp only
  split
  · refine (h.modRadioIn r fun settings start => ?_).formPair r
    have ok := (h.inRange settings start).radio r
    refine ⟨fun n hn => ?_, ok.pair, ok.tagCounter, ok.faultCount⟩
    cases hn
    exact bound settings start
  · split
    · exact h.monitorCode r bound
    · exact h

theorem deliver (h : Evolves g p q) (src : Source) {code : Nat} (bound : g.Ok → p.InRange → code ≤ 63) :
    Evolves g p (q.deliver g src code) := by
  cases src with
  | rcu r => exact h.takeLevelCode r bound
  | battery => exact h.takeBattery bound

theorem conversionComplete (h : Evolves g p q) (v : Microvolts) : Evolves g p (q.conversionComplete v g) := by
  unfold Part.conversionComplete
  split
  · next c hc =>
    have delivered : Evolves g p (q.deliverResult g c) := by
      unfold Part.deliverResult
      split
      · exact h
      · exact h.deliver _ fun settings start => ((h.inRange settings start).conversion c hc).result_le
    unfold Part.advanceConverter
    dsimp only
    split
    · exact (delivered.setLine _ v).advance _
    · exact delivered.advance _
  · exact h

theorem closeGate (h : Evolves g p q) (r : RcuId) : Evolves g p ((q.modRadio r Radio.closeGate).formPair g r) :=
  (h.modRadio r fun _ ok => ok.closeGate).formPair r

theorem windowCloses (h : Evolves g p q) (r : RcuId) (v : Microvolts) : Evolves g p (q.windowCloses r v) := by
  unfold Part.windowCloses
  split
  · exact ((h.setLine _ v).plainRadio r).requestConversion _
  · exact h

theorem sampleExpires (h : Evolves g p q) (v : Microvolts) : Evolves g p (q.sampleExpires v) := by
  unfold Part.sampleExpires
  split
  · exact h.frame.requestConversion _
  · exact h

/-! ## Commands of the ports and expiries -/

theorem placeCall (h : Evolves g p q) (k : RecId) : Evolves g p (q.placeCall g k) := (h.startCall k).claim _

theorem onRcu (h : Evolves g p q) (k : RecId) {f : RcuId → Part → Part} (each : ∀ r, Evolves g p (f r q)) :
    Evolves g p (q.onRcu k f) := by
  unfold Part.onRcu
  split
  · exact each _
  · exact h

theorem hangUp (h : Evolves g p q) (k : RecId) : Evolves g p (q.hangUp k) := by
  unfold Part.hangUp
  split
  case h_1 => exact (h.leaveQueue _).recordIdle k
  case h_7 => exact (h.onRcu k fun r => h.leaveConnected k r).enterClearing k
  case h_8 => exact h
  case h_9 => exact h
  case h_10 => exact h
  all_goals exact h.enterClearing k

theorem answerCall (h : Evolves g p q) (k : RecId) : Evolves g p (q.answerCall k) :=
  have inHand := h.modCall k fun c => { c with ringTimer := none, answerInHand := true }
  inHand.onRcu k fun r => inHand.offer r .answer

theorem panelEffect (h : Evolves g p q) (k : RecId) (code : Byte) : Evolves g p (q.panelEffect k code g) := by
  unfold Part.panelEffect
  split
  · exact h.placeCall k
  · exact h.hangUp k
  · exact h.answerCall k
  · exact h

theorem placeTest (h : Evolves g p q) : Evolves g p (q.placeTest g) := (h.startCall .test).frame.claim _

theorem cabinetEffect (h : Evolves g p q) (code parameter : Byte) : Evolves g p (q.cabinetEffect code parameter g) := by
  unfold Part.cabinetEffect
  split
  · exact h.placeTest
  · exact h.requestSweep _
  · exact h.clearTable
  · split
    · exact h.restoreRadio _
    · exact h
  · exact h

theorem ringTimeout (h : Evolves g p q) (k : RecId) : Evolves g p (q.ringTimeout k) :=
  have expired := h.modCall k CallRec.ringExpired
  (expired.onRcu k fun r => expired.offer r .reject).enterClearing k

theorem surveyTimeout (h : Evolves g p q) : Evolves g p (q.surveyTimeout g) :=
  (h.withSurvey (v := { q.survey with timer := some (g.surveyTime q.power.level) }) id).surveyExpires

/-! ## Reactions and the end of an event -/

theorem testWithoutRadio (h : Evolves g p q) : Evolves g p q.testWithoutRadio :=
  ((h.writeTest _).leaveQueue .test).recordIdle .test

theorem run (h : Evolves g p q) (x : Reaction) : Evolves g p (x.run g q) := by
  cases x
  case testNoRadio => exact h.testWithoutRadio
  case wake r => exact h.modRadio r fun _ ok => ok.wakeUp
  case releaseCall r => exact h.modRadio r fun _ ok => ok.send _ _
  case preemptWaiting =>
    unfold Reaction.run Part.preemptForHead
    dsimp only
    split
    · exact h.preempt _ _
    · exact h
  case serve =>
    unfold Reaction.run Part.serveHead
    dsimp only
    split
    · exact h.grant _ _
    · exact h
  case endSweep r => exact h.surveyReleases r
  case clearingRelease k => exact h.onRcu k fun r => h.offer r .release
  case leaveClearing k => exact h.leaveClearing k
  case dialPublic k => exact h.onRcu k fun r => h.offerDial k r
  case sweepItem r => exact h.sweepAdvances r
  case seekStart k => exact h.onRcu k fun r => h.beginRound k r
  case seekNext k => exact h.onRcu k fun r => h.beginNext k r
  case camp =>
    unfold Reaction.run Part.offerCamp
    dsimp only
    split
    · exact h.offer _ _
    · exact h
  case goOff r => exact h.goOff r

theorem settle (h : Evolves g p q) (n : Nat) : Evolves g p (q.settle g n) :=
  Part.settle_keeps g (Evolves g p) (fun _ x _ kept => kept.run x) n q h

theorem dozeTimers (h : Evolves g p q) : Evolves g p (q.dozeTimers g) :=
  (h.modRadio .rcu0 fun _ ok => ok.dozeWait g).modRadio .rcu1 fun _ ok => ok.dozeWait g

/-- An event, from its own effect to its end. -/
theorem conclude {s : State} (h : Evolves s.settings p q) : Evolves s.settings p (s.conclude q).part :=
  ((h.settle _).dozeTimers).frame

/-! ## Every change -/

theorem ofEffect (h : Part.Effect g p q) : Evolves g p q := by
  have start := Evolves.refl g p
  cases h with
  | frame r bytes => exact start.frameArrives r bytes
  | fault r => exact start.moduleFault r
  | failure r => exact start.failureExpiry r
  | noAnswer r => exact start.answerExpires r
  | doze r => exact start.modRadio r fun _ ok => ⟨ok.code, ok.pair, ok.nextTag, ok.faultCount⟩
  | recovery r => exact start.returnRadio r
  | pause k => exact start.modCall k _
  | regain k => exact start.modCall k _
  | ring k rings => exact start.ringTimeout k
  | window => exact start.closeWindow
  | survey => exact start.surveyTimeout
  | conversion v => exact start.conversionComplete v
  | gate r => exact start.closeGate r
  | panel k code => exact start.panelEffect k code
  | cabinet code parameter => exact start.cabinetEffect code parameter
  | list had => exact start.listChanged had

theorem elapse (h : Evolves g p q) (us : Nat) : Evolves g p (q.elapse us) := by
  have radios := (h.modRadio .rcu0 fun _ ok => ok.elapse us (frameBeats us q.frameClock)).modRadio .rcu1 fun _ ok =>
    ok.elapse us (frameBeats us q.frameClock)
  refine (radios.withConverter (c := { q.converter with current := q.converter.current.map (Conversion.elapse us) })
    fun old x hx => ?_).frame
  obtain ⟨y, hy, rfl⟩ := Option.map_eq_some_iff.mp hx
  exact (old y hy).elapse us

theorem ofSilent (h : Part.Silent g p q) : Evolves g p q := by
  have start := Evolves.refl g p
  cases h with
  | receiver r x => exact start.plainRadio r
  | line src v => exact start.setLine src v
  | gateOpen r high => exact start.plainRadio r
  | edge r => exact start.plainRadio r
  | window r v => exact start.windowCloses r v
  | sample v => exact start.sampleExpires v
  | age t => exact start.ageEntries.frame
  | second t => exact start.frame
  | notices n => exact start.frame
  | holds low again t => exact start.frame
  | elapse us => exact start.elapse us

theorem release (h : Evolves g p q) : Evolves g p (q.release g) := by
  have booted := (h.plainRadio .rcu0 (f := Radio.boot)).plainRadio .rcu1 (f := Radio.boot)
  unfold Part.release
  dsimp only
  split
  · exact (booted.frame.requestConversion _).requestSweep _
  · exact booted.frame.requestConversion _

end Sys2Proof.Machine.Part.Evolves

namespace Sys2Proof.Machine

set_option Elab.async false

/-! ## The holds and every step -/

theorem Part.keyed_held (lines : AnalogLines) (m : PowerMonitor) : (Part.held lines m).Keyed := by
  have empty : ∀ i e, (Part.held lines m).entryAt i ≠ some e := by
    intro i e he
    simpa [Part.held] using ((Part.held lines m).mem_table_iff e).mpr ⟨i, he⟩
  exact ⟨rfl, fun i _ a _ ha => absurd ha (empty i a), Nat.zero_le _, List.nodup_nil⟩

theorem Radio.ok_held : Radio.held.Ok :=
  ⟨fun _ hn => (by cases hn), fun _ _ _ hc => (by cases hc), ⟨by decide, by decide⟩, by decide⟩

theorem Part.inRange_held (lines : AnalogLines) {m : PowerMonitor} (battery : m.battery = 0) :
    (Part.held lines m).InRange :=
  ⟨fun e he => by simp [Part.held] at he, fun _ hc => (by cases hc), Radio.ok_held, Radio.ok_held,
    (Nat.le_of_eq battery).trans (Nat.zero_le _), Nat.zero_le _⟩

theorem State.Change.keyed {s t : State} (h : s.Change t) (keyed : s.part.Keyed) : t.part.Keyed := by
  cases h with
  | event q effect => exact (Part.Evolves.ofEffect effect).conclude.keyed keyed
  | silent q silent => exact (Part.Evolves.ofSilent silent).keyed keyed
  | ports t part => rw [part]; exact keyed
  | write => exact keyed
  | powerOn => exact Part.keyed_held _ _
  | brownOut => exact Part.keyed_held _ _
  | cabinetReset => exact Part.keyed_held _ _
  | release => exact (Part.Evolves.refl s.settings s.part).release.keyed keyed

/-- Settles O57: every change keeps the slots, the keys and the stack. -/
theorem keysStayUnique : Obligations.KeysStayUnique :=
  fun _ _ keyed h => step_keeps (I := fun s => s.part.Keyed) (fun _ _ change => change.keyed) (fun _ _ k => k) h keyed

theorem State.Change.inRange {s t : State} (h : s.Change t) (settings : s.settings.Ok) (inRange : s.part.InRange) :
    t.part.InRange := by
  cases h with
  | event q effect => exact (Part.Evolves.ofEffect effect).conclude.inRange settings inRange
  | silent q silent => exact (Part.Evolves.ofSilent silent).inRange settings inRange
  | ports t part => rw [part]; exact inRange
  | write => exact inRange
  | powerOn => exact Part.inRange_held _ rfl
  | brownOut => exact Part.inRange_held _ rfl
  | cabinetReset => exact Part.inRange_held _ rfl
  | release => exact (Part.Evolves.refl s.settings s.part).release.inRange settings inRange

/-- Settles O58: every change keeps the settings and the values in range. -/
theorem measuredValuesStayInRange : Obligations.MeasuredValuesStayInRange := fun _ _ settings inRange h =>
  (step_keeps (I := fun s => s.settings.Ok ∧ s.part.InRange)
    (fun _ _ change ok => ⟨change.settings_ok ok.1, change.inRange ok.1 ok.2⟩) (fun _ _ ok => ok) h
    ⟨settings, inRange⟩).2

end Sys2Proof.Machine

/-! # Who holds what: the operations that move nothing

An operation moves nothing when no RCU changes hands or breaks, no background sweep begins, the claims and the voice
paths stay, and the sides' records keep their states. It keeps `Part.Owned`, and so most operations are gone through
here once. -/

namespace Sys2Proof.Machine

set_option Elab.async false

theorem RcuId.eq_or_other (r r' : RcuId) : r' = r ∨ r' = r.other := by cases r <;> cases r' <;> decide

theorem RcuId.other_ne (r : RcuId) : r.other ≠ r := by cases r <;> decide

/-- The sweep is the survey's, or ends as only the survey's do. -/
def Sweep.surveys (c : Sweep) : Prop := c.isBackground = true ∨ c.state = .ending

/-- The change of an RCU leaves it with its holder, unbroken, and without a new sweep of the survey's. -/
structure Radio.Unmoved (x y : Radio) : Prop where
  holder : y.holder = x.holder
  broken : y.broken = true → x.broken = true
  sweep : ∀ d, y.sweep = some d → d.surveys → ∃ c, x.sweep = some c ∧ c.surveys

namespace Radio.Unmoved

variable {x y z : Radio}

theorem refl (x : Radio) : Unmoved x x := ⟨rfl, id, fun d hd surveys => ⟨d, hd, surveys⟩⟩

theorem trans (h : Unmoved x y) (h' : Unmoved y z) : Unmoved x z := by
  refine ⟨h'.holder.trans h.holder, h.broken ∘ h'.broken, fun d hd surveys => ?_⟩
  obtain ⟨c, hc, surveys⟩ := h'.sweep d hd surveys
  exact h.sweep c hc surveys

/-- A change of other fields. -/
theorem frame (h : Unmoved x y) (holder : z.holder = y.holder := by rfl)
    (condition : z.condition = y.condition := by rfl) (sweep : z.sweep = y.sweep := by rfl) : Unmoved x z :=
  h.trans ⟨holder, fun hb => by simpa only [Radio.broken, condition] using hb, fun d hd surveys =>
    ⟨d, sweep ▸ hd, surveys⟩⟩

/-- A change of the condition. -/
theorem condition (h : Unmoved x y) (works : z.broken = false) (holder : z.holder = y.holder := by rfl)
    (sweep : z.sweep = y.sweep := by rfl) : Unmoved x z :=
  h.trans ⟨holder, fun hb => by simp [works] at hb, fun d hd surveys => ⟨d, sweep ▸ hd, surveys⟩⟩

/-- A sweep of a record's, or none. -/
theorem ownSweep (h : Unmoved x y) (sweep : ∀ d, z.sweep = some d → ¬ d.surveys) (holder : z.holder = y.holder := by rfl)
    (condition : z.condition = y.condition := by rfl) : Unmoved x z :=
  h.trans ⟨holder, fun hb => by simpa only [Radio.broken, condition] using hb, fun d hd surveys =>
    absurd surveys (sweep d hd)⟩

/-- A change of the sweep in hand that keeps its kind and its state. -/
theorem mapSweep (h : Unmoved x y) {f : Sweep → Sweep} (kind : ∀ c, (f c).kind = c.kind)
    (state : ∀ c, (f c).state = c.state) : Unmoved x { y with sweep := y.sweep.map f } := by
  refine h.trans ⟨rfl, id, fun d hd surveys => ?_⟩
  obtain ⟨c, hc, rfl⟩ := Option.map_eq_some_iff.mp hd
  exact ⟨c, hc, by simpa only [Sweep.surveys, Sweep.isBackground, kind, state] using surveys⟩

theorem send (h : Unmoved x y) (o : Order) (i : Issuer) : Unmoved x (y.send o i) := h.frame

theorem offer (h : Unmoved x y) (o : Order) : Unmoved x (y.offer o) := by
  unfold Radio.offer
  split
  · exact h.frame
  · exact h

theorem abandon (h : Unmoved x y) : Unmoved x y.abandon := by
  have retired : Unmoved x y.retire := by
    unfold Radio.retire
    split
    · split
      · exact h.frame
      · exact h
    · exact h
  exact retired.frame

theorem unbegin (h : Unmoved x y) : Unmoved x y.unbegin := by
  unfold Radio.unbegin
  split
  · exact h.frame
  · exact h

theorem measure (h : Unmoved x y) (item : SweepItem) : Unmoved x (y.measure item) := by
  unfold Radio.measure
  split
  · exact h.frame.offer _
  · exact h

/-- An RCU in a call is offered a RELEASE. -/
theorem offerRelease (h : Unmoved x y) : Unmoved x (if y.condition = .inCall then y.offer .release else y) := by
  split
  · exact h.offer _
  · exact h

theorem clear (h : Unmoved x y) : Unmoved x y.clear := by
  unfold Radio.clear
  split
  · exact (show Unmoved x { y with answerTimer := none } from h.frame).offerRelease
  · exact h.abandon.offerRelease

theorem acknowledge (h : Unmoved x y) (tag : Nat) : Unmoved x (y.acknowledge tag) := by
  unfold Radio.acknowledge
  split
  · split
    · exact h.frame
    · exact h
  · exact h

theorem bringUp (h : Unmoved x y) : Unmoved x y.bringUp := by
  unfold Radio.bringUp
  dsimp only
  split
  · exact h.condition rfl
  · split
    · exact h.condition rfl
    · exact h.frame
  all_goals exact h.frame

theorem dozeWait (h : Unmoved x y) (g : Settings) : Unmoved x (y.dozeWait g) := by
  unfold Radio.dozeWait
  split
  · split
    · exact h
    · exact h.frame
  · exact h.frame

end Radio.Unmoved

/-- Nothing moves from `p` to `q`. -/
structure Part.Unmoved (p q : Part) : Prop where
  radio : ∀ r, Radio.Unmoved (p.radio r) (q.radio r)
  claims : q.claims = p.claims
  voice : ∀ d, q.voice d = p.voice d
  state : ∀ d : Side, (q.call d.record).state = (p.call d.record).state

namespace Part.Unmoved

variable {g : Settings} {p q : Part}

theorem refl (p : Part) : Unmoved p p := ⟨fun _ => .refl _, rfl, fun _ => rfl, fun _ => rfl⟩

theorem trans {p q u : Part} (h : Unmoved p q) (h' : Unmoved q u) : Unmoved p u :=
  ⟨fun r => (h.radio r).trans (h'.radio r), h'.claims.trans h.claims, fun d => (h'.voice d).trans (h.voice d),
    fun d => (h'.state d).trans (h.state d)⟩

/-- A change of none of the components that `Part.Owned` speaks of. -/
theorem frame (h : Unmoved p q) {u : Part} (radio0 : u.radio0 = q.radio0 := by rfl)
    (radio1 : u.radio1 = q.radio1 := by rfl) (claims : u.claims = q.claims := by rfl)
    (voiceA : u.voiceA = q.voiceA := by rfl) (voiceB : u.voiceB = q.voiceB := by rfl)
    (stateA : u.sideA.state = q.sideA.state := by rfl) (stateB : u.sideB.state = q.sideB.state := by rfl) :
    Unmoved p u := by
  refine h.trans ⟨fun r => ?_, claims, fun d => ?_, fun d => ?_⟩
  · have same : u.radio r = q.radio r := by cases r <;> assumption
    exact same ▸ .refl _
  · cases d <;> assumption
  · cases d <;> assumption

theorem modRadio (h : Unmoved p q) (r : RcuId) {f : Radio → Radio} (one : ∀ x, Radio.Unmoved x (f x)) :
    Unmoved p (q.modRadio r f) := by
  refine h.trans ⟨fun r' => ?_, by simp, fun d => ?_, fun d => by simp⟩
  · obtain rfl | rfl := RcuId.eq_or_other r r'
    · simpa using one _
    · simpa using Radio.Unmoved.refl _
  · cases d <;> simp [Part.voice]

theorem modCall (h : Unmoved p q) (k : RecId) {f : CallRec → CallRec}
    (state : ∀ c, (f c).state = c.state := by intro; rfl) :
    Unmoved p (q.modCall k f) := by
  cases k
  · exact h.frame (stateA := state _)
  · exact h.frame (stateB := state _)
  · exact h.frame

/-- The TEST record has no voice path, so its state is free. -/
theorem modTest (h : Unmoved p q) {f : CallRec → CallRec} : Unmoved p (q.modCall .test f) := h.frame

/-! ## The table, the stack and the plans -/

theorem prune (h : Unmoved p q) : Unmoved p q.prune := h.frame

theorem modTarget (h : Unmoved p q) (t : Target) (f : Entry → Entry) : Unmoved p (q.modTarget t f) := by
  cases t <;> exact h.frame

theorem insertNew (h : Unmoved p q) (e : Entry) : Unmoved p (q.insertNew g e) := by
  unfold Part.insertNew
  split
  · exact h.frame
  · exact h

theorem insertHeard (h : Unmoved p q) (key : Key) (l m carrier : Nat) (kind : AccessKind) (barring : Barring) :
    Unmoved p (q.insertHeard g key l m carrier kind barring) := by
  unfold Part.insertHeard
  split
  · exact h.frame
  · exact h.insertNew _

theorem insertBlind (h : Unmoved p q) (cell : CarrierKey) (kind : AccessKind) (barring : Barring) :
    Unmoved p (q.insertBlind g cell kind barring) := by
  unfold Part.insertBlind
  split
  · exact h.frame
  · exact h.insertNew _

theorem emptyPlan (h : Unmoved p q) (k : RecId) : Unmoved p (q.emptyPlan k) := (h.modCall k).prune

theorem buildPlan (h : Unmoved p q) (k : RecId) : Unmoved p (q.buildPlan g k) := (h.modCall k).prune

theorem buildRegainPlan (h : Unmoved p q) (k : RecId) : Unmoved p (q.buildRegainPlan g k) :=
  (h.modCall k).prune

theorem closeLent (h : Unmoved p q) (k : RecId) : Unmoved p (q.closeLent k) := by
  unfold Part.closeLent
  split
  · split
    · exact h.frame
    · exact h
  · exact h

theorem blindAccepted (h : Unmoved p q) (k : RecId) (a : Attempt) (cell : CarrierKey) (kind : AccessKind)
    (barring : Barring) : Unmoved p (q.blindAccepted g k a cell kind barring) := by
  unfold Part.blindAccepted
  dsimp only
  split <;> exact (h.insertBlind cell kind barring).modCall k

/-! ## RCUs -/

theorem offer (h : Unmoved p q) (r : RcuId) (o : Order) : Unmoved p (q.offer r o) :=
  h.modRadio r fun x => (Radio.Unmoved.refl x).offer o

theorem abandon (h : Unmoved p q) (r : RcuId) : Unmoved p (q.abandon r) :=
  h.modRadio r fun x => (Radio.Unmoved.refl x).abandon

theorem unbeginItem (h : Unmoved p q) (r : RcuId) : Unmoved p (q.unbeginItem r) :=
  h.modRadio r fun x => (Radio.Unmoved.refl x).unbegin

/-- A change of an RCU's fields beside its holder, its condition and its sweep. -/
theorem plainRadio (h : Unmoved p q) (r : RcuId) {f : Radio → Radio}
    (holder : ∀ x, (f x).holder = x.holder := by intro; rfl)
    (condition : ∀ x, (f x).condition = x.condition := by intro; rfl)
    (sweep : ∀ x, (f x).sweep = x.sweep := by intro; rfl) : Unmoved p (q.modRadio r f) :=
  h.modRadio r fun x => (Radio.Unmoved.refl x).frame (holder x) (condition x) (sweep x)

/-- A change of an RCU to a condition in which it is not broken. -/
theorem conditionRadio (h : Unmoved p q) (r : RcuId) {f : Radio → Radio}
    (works : ∀ x, (f x).broken = false := by intro; rfl) (holder : ∀ x, (f x).holder = x.holder := by intro; rfl)
    (sweep : ∀ x, (f x).sweep = x.sweep := by intro; rfl) : Unmoved p (q.modRadio r f) :=
  h.modRadio r fun x => (Radio.Unmoved.refl x).condition (works x) (holder x) (sweep x)

theorem abandonMeasurement (h : Unmoved p q) (r : RcuId) : Unmoved p (q.abandonMeasurement r) :=
  (show Unmoved p (q.withdrawConversion (.rcu r)) from h.frame).plainRadio r

theorem endContinuous (h : Unmoved p q) (r : RcuId) : Unmoved p (q.endContinuous r) := by
  unfold Part.endContinuous
  split
  · exact h.abandonMeasurement r
  · exact h

theorem startContinuous (h : Unmoved p q) (r : RcuId) (key : Option Key) : Unmoved p (q.startContinuous r key) := by
  unfold Part.startContinuous
  split
  · exact (h.abandonMeasurement r).plainRadio r
  · exact h

theorem supplyOff (h : Unmoved p q) (r : RcuId) : Unmoved p (q.supplyOff r) := (h.abandonMeasurement r).plainRadio r

theorem goOff (h : Unmoved p q) (r : RcuId) : Unmoved p (q.goOff r) := (h.supplyOff r).conditionRadio r

theorem leaveInCall (h : Unmoved p q) (r : RcuId) : Unmoved p (q.leaveInCall r) :=
  (h.endContinuous r).conditionRadio r

theorem applyOutcome (h : Unmoved p q) (r : RcuId) (o : Order) (x : ModuleOutcome) :
    Unmoved p (q.applyOutcome r o x) := by
  unfold Part.applyOutcome
  split
  case h_6 => exact h.leaveInCall r
  case h_7 => exact h
  all_goals exact h.conditionRadio r

theorem prove (h : Unmoved p q) (r : RcuId) : Unmoved p (q.prove r) := by
  have proved : Unmoved p (q.modRadio r fun x => { x with proving := false, faultCount := 0 }) := h.plainRadio r
  unfold Part.prove
  dsimp only
  split
  · split
    · exact proved
    · exact proved.frame
  · exact h

theorem holderLeaves (h : Unmoved p q) (r : RcuId) : Unmoved p (q.holderLeaves r) := by
  refine ((h.abandon r).endContinuous r).modRadio r fun x => ?_
  split
  · exact (Radio.Unmoved.refl x).condition rfl
  · exact .refl x

theorem modSweep (h : Unmoved p q) (r : RcuId) {f : Sweep → Sweep}
    (kind : ∀ c, (f c).kind = c.kind := by intro; rfl) (state : ∀ c, (f c).state = c.state := by intro; rfl) :
    Unmoved p (q.modSweep r f) :=
  h.modRadio r fun x => (Radio.Unmoved.refl x).mapSweep kind state

theorem removeSweep (h : Unmoved p q) (r : RcuId) : Unmoved p (q.removeSweep r) := by
  unfold Part.removeSweep
  split
  · exact (h.abandonMeasurement r).modRadio r fun x => (Radio.Unmoved.refl x).ownSweep (fun _ hd => by cases hd)
  · exact h

theorem surveyLosesRcu (h : Unmoved p q) (r : RcuId) : Unmoved p (q.surveyLosesRcu g r) := (h.removeSweep r).frame

/-! ## Sweeps -/

theorem beginItem (h : Unmoved p q) (r : RcuId) (cursor : Nat) (item : SweepItem) :
    Unmoved p (q.beginItem r cursor item) :=
  (h.modSweep r).modRadio r fun x => (Radio.Unmoved.refl x).measure item

theorem endItem (h : Unmoved p q) (r : RcuId) : Unmoved p (q.modSweep r Sweep.endItem) :=
  h.modSweep r

theorem completeCallSweep (h : Unmoved p q) (r : RcuId) (k : RecId) :
    Unmoved p (q.completeSweep g r (.call k)) := by
  unfold Part.completeSweep
  dsimp only
  split
  · exact ((h.removeSweep r).buildPlan k).modCall k
  · exact h.removeSweep r

theorem itemEnds (h : Unmoved p q) (r : RcuId) (key : Key) : Unmoved p (q.itemEnds g r key) := by
  unfold Part.itemEnds
  split
  · exact h
  · split
    · exact h.endItem r
    · exact h.endItem r
    · split
      · have ended : Unmoved p (q.modSweep r fun c => { c.endItem with yields := satInc 2 c.yields }) :=
          h.modSweep r
        dsimp only
        split
        · exact ended.completeCallSweep r _
        · exact ended
      · exact h.endItem r

theorem takePair (h : Unmoved p q) (r : RcuId) (key : Key) (l m : Nat) : Unmoved p (q.takePair g r key l m) := by
  unfold Part.takePair
  split
  · exact h
  · split
    · split
      · exact (show Unmoved p (q.modEntry _ _) from h.frame).itemEnds r key
      · split
        · exact h.endItem r
        · exact (h.modSweep r).offer r _
    · exact h

theorem sweepHeard (h : Unmoved p q) (r : RcuId) (carrier : Nat) (kind : AccessKind) (barring : Barring) :
    Unmoved p (q.sweepHeard g r carrier kind barring) := by
  unfold Part.sweepHeard
  split
  · exact h
  · split
    · exact (h.insertHeard _ _ _ _ _ _).itemEnds r _
    · exact h

theorem sweepTakes (h : Unmoved p q) (r : RcuId) (x : ModuleOutcome) : Unmoved p (q.sweepTakes g r x) := by
  unfold Part.sweepTakes
  split
  · exact h.sweepHeard r _ _ _
  · exact h.modSweep r (fun c => by split <;> rfl) fun c => by split <;> rfl
  · exact h

theorem formPair (h : Unmoved p q) (r : RcuId) : Unmoved p (q.formPair g r) := by
  unfold Part.formPair
  dsimp only
  split
  · exact (h.plainRadio r).takePair r _ _ _
  · exact h

theorem dropCallSweep (h : Unmoved p q) (k : RecId) (r : RcuId) : Unmoved p (q.dropCallSweep k r) := by
  unfold Part.dropCallSweep
  split
  · exact (h.unbeginItem r).removeSweep r
  · exact h

theorem beginRound (h : Unmoved p q) (k : RecId) (r : RcuId) : Unmoved p (q.beginRound g k r) := by
  have begun := h.modCall k (f := fun c => { c with blindTried := false, dialled := false })
  unfold Part.beginRound
  dsimp only
  split
  · refine (begun.modCall k).modRadio r fun x => (Radio.Unmoved.refl x).ownSweep fun d hd => ?_
    cases hd
    simp [Sweep.create, Sweep.surveys, Sweep.isBackground]
  · exact (begun.buildPlan k).modCall k

theorem takeSettled (h : Unmoved p q) (r : RcuId) : Unmoved p (q.takeSettled r) := by
  unfold Part.takeSettled
  dsimp only
  split
  · exact (show Unmoved p (q.requestConversion _) from h.frame).plainRadio r
  · exact h

/-! ## Conversions -/

theorem requestConversion (h : Unmoved p q) (src : Source) : Unmoved p (q.requestConversion src) := h.frame

theorem takeWindow (h : Unmoved p q) (k : RecId) (key : Key) (l m : Nat) : Unmoved p (q.takeWindow k key l m) := by
  have faded : ∀ c, (CallRec.fadeTest m c).state = c.state := fun c => by
    unfold CallRec.fadeTest
    split <;> rfl
  unfold Part.takeWindow
  split
  · dsimp only
    split
    · exact (show Unmoved p (q.modEntry _ _) from h.frame).modCall k faded
    · exact h.modCall k faded
  · exact h

theorem takeLevelCode (h : Unmoved p q) (r : RcuId) (code : Nat) : Unmoved p (q.takeLevelCode g r code) := by
  unfold Part.takeLevelCode
  dsimp only
  split
  · exact (h.plainRadio r).formPair r
  · split
    · unfold Part.monitorCode
      dsimp only
      split
      · split
        · exact (h.plainRadio r).takeWindow _ _ _ _
        · exact h.plainRadio r
      · exact h
    · exact h

end Part.Unmoved

end Sys2Proof.Machine

/-! # Who holds what: the operations that move an RCU, a claim, a sweep or a voice path

R81 and R117 as an invariant of every step. Each operation keeps `Part.Owned` where its callers call it: a record
leaves a state only while its voice path is open, and an RCU leaves its holder only while no voice path leads to it and
no sweep of the survey's runs on it. -/

namespace Sys2Proof.Machine

set_option Elab.async false

/-! ## Voice paths -/

/-- The record's voice path is open. The TEST record has none. -/
def Part.OffAir (p : Part) (k : RecId) : Prop := ∀ d : Side, d.record = k → p.voice d = none

/-- The voice paths of `q` are those of `p`. -/
def Part.SameVoice (p q : Part) : Prop := ∀ d, q.voice d = p.voice d

theorem Side.record_injective : Function.Injective Side.record := by
  intro d d' h
  cases d <;> cases d' <;> first | rfl | cases h

theorem RecId.holder_injective : Function.Injective RecId.holder := by
  intro k k' h
  cases k <;> cases k' <;> first | rfl | cases h

theorem RecId.record_of_side {k : RecId} {d : Side} (h : k.side = some d) : d.record = k := by
  cases k <;> cases h <;> rfl

theorem Part.offAir_test (p : Part) : p.OffAir .test := fun d h => by cases d <;> cases h

theorem Part.OffAir.sameVoice {p q : Part} {k : RecId} (h : p.OffAir k) (same : p.SameVoice q) : q.OffAir k :=
  fun d hd => (same d).trans (h d hd)

theorem Part.offAir_side {p : Part} {d : Side} (h : p.voice d = none) : p.OffAir d.record := by
  intro d' hd'
  rw [Side.record_injective hd']
  exact h

@[simp] theorem Part.voice_modRadio (p : Part) (r : RcuId) (f : Radio → Radio) (d : Side) :
    (p.modRadio r f).voice d = p.voice d := by cases d <;> simp [Part.voice]

@[simp] theorem Part.voice_setCall (p : Part) (k : RecId) (c : CallRec) (d : Side) :
    (p.setCall k c).voice d = p.voice d := by cases d <;> simp [Part.voice]

@[simp] theorem Part.voice_modCall (p : Part) (k : RecId) (f : CallRec → CallRec) (d : Side) :
    (p.modCall k f).voice d = p.voice d := by cases d <;> simp [Part.voice]

theorem Part.Unmoved.sameVoice {p q : Part} (h : Unmoved p q) : p.SameVoice q := h.voice

namespace Part.SameVoice

variable {g : Settings} {p q : Part}

theorem refl (p : Part) : SameVoice p p := fun _ => rfl

theorem trans {p q u : Part} (h : SameVoice p q) (h' : SameVoice q u) : SameVoice p u :=
  fun d => (h' d).trans (h d)

theorem moved (h : SameVoice p q) {u : Part} (same : Unmoved q u) : SameVoice p u := h.trans same.voice

theorem frame (h : SameVoice p q) {u : Part} (voiceA : u.voiceA = q.voiceA := by rfl)
    (voiceB : u.voiceB = q.voiceB := by rfl) : SameVoice p u :=
  h.trans fun d => by cases d <;> assumption

theorem modRadio (h : SameVoice p q) (r : RcuId) (f : Radio → Radio) : SameVoice p (q.modRadio r f) :=
  h.trans fun d => q.voice_modRadio r f d

theorem setCall (h : SameVoice p q) (k : RecId) (c : CallRec) : SameVoice p (q.setCall k c) :=
  h.trans fun d => q.voice_setCall k c d

theorem modCall (h : SameVoice p q) (k : RecId) (f : CallRec → CallRec) : SameVoice p (q.modCall k f) :=
  h.trans fun d => q.voice_modCall k f d

theorem seek (h : SameVoice p q) (k : RecId) : SameVoice p (q.seek g k) := by
  unfold Part.seek
  split
  · exact (h.moved ((Unmoved.refl q).buildRegainPlan k)).modCall k _
  · exact h.modCall k _

theorem granted (h : SameVoice p q) (x : Holder) (r : RcuId) : SameVoice p (q.granted g x r) := by
  cases x
  case survey => exact (show SameVoice p { q with survey := _ } from h.frame).modRadio r _
  case window => exact h
  all_goals exact h.seek _

theorem assign (h : SameVoice p q) (r : RcuId) (x : Holder) : SameVoice p (q.assign r x) := h.modRadio r _

theorem releaseRcu (h : SameVoice p q) (r : RcuId) : SameVoice p (q.releaseRcu r) :=
  (h.moved ((Unmoved.refl q).holderLeaves r)).modRadio r _

theorem grant (h : SameVoice p q) (x : Holder) (r : RcuId) : SameVoice p (q.grant g x r) :=
  ((show SameVoice p (q.leaveQueue x) from h.frame).assign r x).granted x r

end Part.SameVoice

/-! ## Changes of an RCU and of a record -/

namespace Part.Owned

variable {g : Settings} {p q : Part}

theorem alone (own : p.Owned) {r : RcuId} {h : Holder} (held : (p.radio r).holder = some h) :
    (p.radio r.other).holder ≠ some h := by
  cases r
  · exact own.oneRcuPerHolder h held
  · exact fun held' => own.oneRcuPerHolder h held' held

theorem unmoved (own : p.Owned) (h : Unmoved p q) : q.Owned where
  oneRcuPerHolder x := by
    have held0 := (h.radio .rcu0).holder
    have held1 := (h.radio .rcu1).holder
    simp only [Part.radio] at held0 held1
    rw [held0, held1]
    exact own.oneRcuPerHolder x
  waitsOnce := h.claims ▸ own.waitsOnce
  waitsUnassigned x r held := by
    unfold Part.waits
    rw [h.claims]
    exact own.waitsUnassigned x r ((h.radio r).holder ▸ held)
  backgroundSweeps r d hd surveys := by
    obtain ⟨c, hc, surveys⟩ := (h.radio r).sweep d hd surveys
    exact (h.radio r).holder.trans (own.backgroundSweeps r c hc surveys)
  brokenUnassigned r broken := (h.radio r).holder.trans (own.brokenUnassigned r ((h.radio r).broken broken))
  voice d r hv := by
    obtain ⟨connected, held⟩ := own.voice d r (h.voice d ▸ hv)
    exact ⟨(h.state d).trans connected, (h.radio r).holder.trans held⟩

theorem frame (own : p.Owned) {u : Part} (radio0 : u.radio0 = p.radio0 := by rfl)
    (radio1 : u.radio1 = p.radio1 := by rfl) (claims : u.claims = p.claims := by rfl)
    (voiceA : u.voiceA = p.voiceA := by rfl) (voiceB : u.voiceB = p.voiceB := by rfl)
    (stateA : u.sideA.state = p.sideA.state := by rfl) (stateB : u.sideB.state = p.sideB.state := by rfl) : u.Owned :=
  own.unmoved ((Unmoved.refl p).frame radio0 radio1 claims voiceA voiceB stateA stateB)

theorem offAir_of_state (own : p.Owned) {k : RecId} (h : (p.call k).state ≠ .connected) : p.OffAir k := by
  rintro d rfl
  cases hv : p.voice d with
  | none => rfl
  | some r => exact absurd (own.voice d r hv).1 h

theorem offAir_of_rcu (own : p.Owned) {k : RecId} (h : p.callRcu k = none) : p.OffAir k := by
  rintro d rfl
  cases hv : p.voice d with
  | none => rfl
  | some r => exact absurd (own.voice d r hv).2 ((p.rcuOf_eq_none _).mp h r)

/-- An RCU to whose holder no voice path leads. -/
theorem quiet (own : p.Owned) {r : RcuId} (h : ∀ d : Side, (p.radio r).holder = some d.record.holder → p.voice d = none)
    (d : Side) : p.voice d ≠ some r := by
  intro hv
  rw [h d (own.voice d r hv).2] at hv
  cases hv

theorem quiet_of_record (own : p.Owned) {r : RcuId} {k : RecId} (held : (p.radio r).holder = some k.holder)
    (off : p.OffAir k) : ∀ d, p.voice d ≠ some r :=
  own.quiet fun d held' => off d (RecId.holder_injective (Option.some.inj (held'.symm.trans held)))

theorem quiet_of_other (own : p.Owned) {r : RcuId} (held : ∀ d : Side, (p.radio r).holder ≠ some d.record.holder) :
    ∀ d, p.voice d ≠ some r := own.quiet fun d held' => absurd held' (held d)

/-- No voice path leads to the RCU of a holder below the panel class. -/
theorem quiet_of_lower (own : p.Owned) {r : RcuId} {x : Holder} (held : (p.radio r).holder = some x)
    (lower : x.isPanel = false) : ∀ d, p.voice d ≠ some r :=
  own.quiet_of_other fun d held' => by
    cases Option.some.inj (held.symm.trans held')
    cases d <;> cases lower

/-- A sweep on an RCU that the survey does not hold is not the survey's. -/
theorem ownSweep (own : p.Owned) {r : RcuId} (held : (p.radio r).holder ≠ some .survey) (c : Sweep)
    (hc : (p.radio r).sweep = some c) : ¬ c.surveys := fun surveys => held (own.backgroundSweeps r c hc surveys)

theorem setCall (own : p.Owned) {k : RecId} (off : p.OffAir k) (c : CallRec) : (p.setCall k c).Owned where
  oneRcuPerHolder := by simpa using own.oneRcuPerHolder
  waitsOnce := by simpa using own.waitsOnce
  waitsUnassigned h r held := by simpa [Part.waits] using own.waitsUnassigned h r (by simpa using held)
  backgroundSweeps := by simpa using own.backgroundSweeps
  brokenUnassigned := by simpa using own.brokenUnassigned
  voice d r hv := by
    rw [Part.voice_setCall] at hv
    have ne : d.record ≠ k := fun same => by rw [off d same] at hv; cases hv
    rw [Part.call_setCall_ne _ _ _ _ ne, Part.radio_setCall]
    exact own.voice d r hv

theorem modCall (own : p.Owned) {k : RecId} (off : p.OffAir k) (f : CallRec → CallRec) : (p.modCall k f).Owned :=
  own.setCall off _

/-- A voice path opens. -/
theorem openVoice (own : p.Owned) (d : Side) : (p.setVoice d none).Owned where
  oneRcuPerHolder := by cases d <;> exact own.oneRcuPerHolder
  waitsOnce := by simpa using own.waitsOnce
  waitsUnassigned h r held := by simpa [Part.waits] using own.waitsUnassigned h r (by simpa using held)
  backgroundSweeps := by simpa using own.backgroundSweeps
  brokenUnassigned := by simpa using own.brokenUnassigned
  voice d' r hv := by
    have kept : p.voice d' = some r := by cases d <;> cases d' <;> first | exact hv | cases hv
    simpa using own.voice d' r kept

/-- A voice path closes to the RCU of a record that is CONNECTED from then on. -/
theorem closeVoice (own : p.Owned) {d : Side} {r : RcuId} (held : (p.radio r).holder = some d.record.holder)
    {f : CallRec → CallRec} (connected : ∀ c, (f c).state = .connected) :
    ((p.setVoice d (some r)).modCall d.record f).Owned where
  oneRcuPerHolder := by cases d <;> exact own.oneRcuPerHolder
  waitsOnce := by simpa using own.waitsOnce
  waitsUnassigned h r held := by simpa [Part.waits] using own.waitsUnassigned h r (by simpa using held)
  backgroundSweeps := by simpa using own.backgroundSweeps
  brokenUnassigned := by simpa using own.brokenUnassigned
  voice d' r' hv := by
    rw [Part.voice_modCall] at hv
    by_cases same : d' = d
    · subst same
      rw [Part.voice_setVoice_self] at hv
      cases hv
      exact ⟨by simp [connected], by simpa using held⟩
    · have kept : p.voice d' = some r' := by cases d <;> cases d' <;> first | exact hv | exact absurd rfl same
      rw [Part.call_modCall_ne _ _ _ _ fun h => same (Side.record_injective h)]
      simpa using own.voice d' r' kept

/-- An RCU loses its holder. -/
theorem unassign (own : p.Owned) {r : RcuId} (unheld : (q.radio r).holder = none)
    (sweep : ∀ c, (q.radio r).sweep = some c → ¬ c.surveys)
    (other : Radio.Unmoved (p.radio r.other) (q.radio r.other)) (claims : q.claims = p.claims)
    (quiet : ∀ d, q.voice d ≠ some r)
    (voice : ∀ d r', q.voice d = some r' → p.voice d = some r' ∧ (q.call d.record).state = (p.call d.record).state) :
    q.Owned where
  oneRcuPerHolder h held0 held1 := by
    cases r
    · exact absurd (unheld.symm.trans held0) (by simp)
    · exact absurd (unheld.symm.trans held1) (by simp)
  waitsOnce := claims ▸ own.waitsOnce
  waitsUnassigned h r' held := by
    obtain rfl | rfl := RcuId.eq_or_other r r'
    · rw [unheld] at held; cases held
    · unfold Part.waits
      rw [claims]
      exact own.waitsUnassigned h _ (other.holder ▸ held)
  backgroundSweeps r' c hc surveys := by
    obtain rfl | rfl := RcuId.eq_or_other r r'
    · exact absurd surveys (sweep c hc)
    · obtain ⟨c', hc', surveys'⟩ := other.sweep c hc surveys
      exact other.holder.trans (own.backgroundSweeps _ c' hc' surveys')
  brokenUnassigned r' broken := by
    obtain rfl | rfl := RcuId.eq_or_other r r'
    · exact unheld
    · exact other.holder.trans (own.brokenUnassigned _ (other.broken broken))
  voice d r' hv := by
    obtain ⟨old, state⟩ := voice d r' hv
    obtain ⟨connected, held⟩ := own.voice d r' old
    obtain rfl | rfl := RcuId.eq_or_other r r'
    · exact absurd hv (quiet d)
    · exact ⟨state.trans connected, other.holder.trans held⟩

/-- An RCU is given to a holder that has none. -/
theorem reassign (own : p.Owned) {r : RcuId} {h : Holder} (free : p.rcuOf h = none)
    (held : (q.radio r).holder = some h) (works : (q.radio r).broken = false)
    (sweep : ∀ c, (q.radio r).sweep = some c → c.surveys → h = .survey)
    (other : Radio.Unmoved (p.radio r.other) (q.radio r.other))
    (claims : q.claims = p.claims.filter fun w => w.claimant != h) (quiet : ∀ d, p.voice d ≠ some r)
    (voice : p.SameVoice q) (state : ∀ d : Side, (q.call d.record).state = (p.call d.record).state) : q.Owned where
  oneRcuPerHolder x held0 held1 := by
    have none := (p.rcuOf_eq_none h).mp free
    cases r
    · rw [show q.radio0.holder = some h from held] at held0
      cases held0
      exact none .rcu1 (other.holder.symm.trans held1)
    · rw [show q.radio1.holder = some h from held] at held1
      cases held1
      exact none .rcu0 (other.holder.symm.trans held0)
  waitsOnce := claims ▸ (List.filter_sublist.map _).nodup own.waitsOnce
  waitsUnassigned x r' heldX := by
    unfold Part.waits
    rw [claims]
    obtain rfl | rfl := RcuId.eq_or_other r r'
    · rw [held] at heldX
      cases heldX
      simp
    · have old := own.waitsUnassigned x _ (other.holder ▸ heldX)
      simp only [Part.waits, List.any_eq_false] at old
      rw [List.any_eq_false]
      exact fun w hw => old w (List.mem_of_mem_filter hw)
  backgroundSweeps r' c hc surveys := by
    obtain rfl | rfl := RcuId.eq_or_other r r'
    · rw [held, sweep c hc surveys]
    · obtain ⟨c', hc', surveys'⟩ := other.sweep c hc surveys
      exact other.holder.trans (own.backgroundSweeps _ c' hc' surveys')
  brokenUnassigned r' broken := by
    obtain rfl | rfl := RcuId.eq_or_other r r'
    · rw [works] at broken; cases broken
    · exact other.holder.trans (own.brokenUnassigned _ (other.broken broken))
  voice d r' hv := by
    rw [voice d] at hv
    obtain ⟨connected, heldV⟩ := own.voice d r' hv
    obtain rfl | rfl := RcuId.eq_or_other r r'
    · exact absurd hv (quiet d)
    · exact ⟨(state d).trans connected, other.holder.trans heldV⟩

/-- A change of the sweep on the survey's RCU. -/
theorem surveySweep (own : p.Owned) {r : RcuId} (held : (p.radio r).holder = some .survey) {f : Radio → Radio}
    (holder : ∀ x, (f x).holder = x.holder := by intro; rfl)
    (condition : ∀ x, (f x).condition = x.condition := by intro; rfl) : (p.modRadio r f).Owned where
  oneRcuPerHolder := by
    cases r
    · simpa [Part.modRadio, Part.setRadio, Part.radio, holder] using own.oneRcuPerHolder
    · simpa [Part.modRadio, Part.setRadio, Part.radio, holder] using own.oneRcuPerHolder
  waitsOnce := by simpa using own.waitsOnce
  waitsUnassigned h r' heldX := by
    have old : (p.radio r').holder = some h := by
      obtain rfl | rfl := RcuId.eq_or_other r r'
      · simpa [holder] using heldX
      · simpa using heldX
    simpa [Part.waits] using own.waitsUnassigned h r' old
  backgroundSweeps r' c hc surveys := by
    obtain rfl | rfl := RcuId.eq_or_other r r'
    · simpa [holder] using held
    · simpa using own.backgroundSweeps _ c (by simpa using hc) surveys
  brokenUnassigned r' broken := by
    obtain rfl | rfl := RcuId.eq_or_other r r'
    · simpa [holder] using own.brokenUnassigned r' (by simpa [Radio.broken, condition] using broken)
    · simpa using own.brokenUnassigned _ (by simpa using broken)
  voice d r' hv := by
    rw [Part.voice_modRadio] at hv
    obtain ⟨connected, heldV⟩ := own.voice d r' hv
    refine ⟨by simpa using connected, ?_⟩
    obtain rfl | rfl := RcuId.eq_or_other r r'
    · simpa [holder] using heldV
    · simpa using heldV

end Part.Owned

end Sys2Proof.Machine

/-! # Who holds what: the Arbiter, the calls and the window -/

namespace Sys2Proof.Machine

set_option Elab.async false

theorem joinQueue_perm (w : Waiting) (claims : List Waiting) : (joinQueue w claims).Perm (w :: claims) := by
  induction claims with
  | nil => exact .refl _
  | cons x rest ih =>
    unfold joinQueue
    split
    · exact .refl _
    · exact (ih.cons x).trans (.swap w x rest)

@[simp] theorem Part.call_leaveQueue (p : Part) (h : Holder) (k : RecId) : (p.leaveQueue h).call k = p.call k := by
  cases k <;> rfl

@[simp] theorem Part.sweep_removeSweep (p : Part) (r : RcuId) : ((p.removeSweep r).radio r).sweep = none := by
  unfold Part.removeSweep
  split
  · simp
  · next h => simpa using h

theorem Radio.holder_bringUp (x : Radio) : x.bringUp.holder = x.holder := ((Radio.Unmoved.refl x).bringUp).holder

namespace Part.Owned

variable {g : Settings} {p q : Part}

/-! ## Holders -/

theorem releaseRcu (own : p.Owned) {r : RcuId} (quiet : ∀ d, p.voice d ≠ some r)
    (sweep : ∀ c, (p.radio r).sweep = some c → ¬ c.surveys) : (p.releaseRcu r).Owned := by
  have left := (Unmoved.refl p).holderLeaves r
  refine own.unassign (r := r) (by simp [Part.releaseRcu]) (fun c hc surveys => ?_) ?_ ?_ (fun d hv => ?_) fun d r' hv => ?_
  · obtain ⟨c', hc', surveys'⟩ := (left.radio r).sweep c (by simpa [Part.releaseRcu] using hc) surveys
    exact sweep c' hc' surveys'
  · rw [Part.radio_releaseRcu_ne _ (RcuId.other_ne r)]
    exact .refl _
  · simp
  · rw [(SameVoice.refl p).releaseRcu r d] at hv
    exact quiet d hv
  · rw [(SameVoice.refl p).releaseRcu r d] at hv
    exact ⟨hv, by simp⟩

/-- A record, the window or nobody gives up an RCU to which no voice path leads. -/
theorem releaseOwn (own : p.Owned) {r : RcuId} (quiet : ∀ d, p.voice d ≠ some r)
    (held : (p.radio r).holder ≠ some .survey) : (p.releaseRcu r).Owned := own.releaseRcu quiet (own.ownSweep held)

theorem leaveQueue (own : p.Owned) (h : Holder) : (p.leaveQueue h).Owned where
  oneRcuPerHolder := own.oneRcuPerHolder
  waitsOnce := (List.filter_sublist.map _).nodup own.waitsOnce
  waitsUnassigned x r held := by
    have old := own.waitsUnassigned x r (by simpa using held)
    simp only [Part.waits, List.any_eq_false] at old ⊢
    exact fun w hw => old w (List.mem_of_mem_filter hw)
  backgroundSweeps := by simpa using own.backgroundSweeps
  brokenUnassigned := by simpa using own.brokenUnassigned
  voice d r hv := by
    obtain ⟨connected, held⟩ := own.voice d r (by cases d <;> exact hv)
    exact ⟨by cases d <;> exact connected, by simpa using held⟩

/-- The claimant that has left the queue waits no more. -/
theorem filter_claims (h : p.waits x = false) : p.claims.filter (fun w => w.claimant != x) = p.claims := by
  rw [List.filter_eq_self]
  intro w hw
  simpa using (List.any_eq_false.mp h) w hw

theorem assign (own : p.Owned) {r : RcuId} {h : Holder} (free : p.rcuOf h = none) (idle : p.waits h = false)
    (works : (p.radio r).broken = false) (sweep : ∀ c, (p.radio r).sweep = some c → ¬ c.surveys)
    (quiet : ∀ d, p.voice d ≠ some r) : (p.assign r h).Owned := by
  have up := (Radio.Unmoved.refl { p.radio r with holder := some h }).bringUp
  have new : (p.assign r h).radio r = Radio.bringUp { p.radio r with holder := some h } := by simp [Part.assign]
  refine own.reassign free (new ▸ up.holder) ?_ (fun c hc surveys => ?_) ?_ ?_ quiet
    ((SameVoice.refl p).assign r h) (by simp)
  · rw [new, ← Bool.not_eq_true]
    exact fun broken => absurd (up.broken broken) (by simpa [Radio.broken] using works)
  · obtain ⟨c', hc', surveys'⟩ := up.sweep c (new ▸ hc) surveys
    exact absurd surveys' (sweep c' hc')
  · rw [Part.radio_assign_ne _ (RcuId.other_ne r)]
    exact .refl _
  · simp [filter_claims idle]

theorem seek (own : p.Owned) {k : RecId} (off : p.OffAir k) : (p.seek g k).Owned := by
  unfold Part.seek
  split
  · have built := (Unmoved.refl p).buildRegainPlan (g := g) k
    exact (own.unmoved built).modCall (off.sameVoice built.voice) _
  · exact own.modCall off _

theorem granted (own : p.Owned) {h : Holder} {r : RcuId} (held : (p.radio r).holder = some h)
    (off : ∀ k : RecId, k.holder = h → p.OffAir k) : (p.granted g h r).Owned := by
  cases h
  case survey =>
    have engine : Part.Owned { p with survey := { p.survey with state := .sweeping } } := own.frame
    have heldNow : (Part.radio { p with survey := { p.survey with state := .sweeping } } r).holder = some .survey := by
      cases r <;> exact held
    unfold Part.granted Part.surveyGranted
    exact engine.surveySweep heldNow
  case window => exact own
  all_goals exact own.seek (off _ rfl)

/-- A claimant without an RCU has its voice path open. -/
theorem offAir_of_free (own : p.Owned) {h : Holder} (free : p.rcuOf h = none) (k : RecId) (same : k.holder = h) :
    p.OffAir k := by
  subst same
  exact own.offAir_of_rcu free

/-- No voice path leads to an RCU without a holder, and no sweep of the survey's runs on it. -/
theorem grant (own : p.Owned) {h : Holder} {r : RcuId} (free : p.rcuOf h = none)
    (grantable : (p.radio r).grantable = true) : (p.grant g h r).Owned := by
  obtain ⟨unheld, works⟩ : (p.radio r).holder = none ∧ (p.radio r).broken = false := by
    simpa [Radio.grantable] using grantable
  have left := own.leaveQueue h
  have given : ((p.leaveQueue h).assign r h).Owned := by
    refine left.assign free ?_ (by simpa using works) ?_ ?_
    · simp [Part.waits, Part.leaveQueue]
    · exact left.ownSweep (by simp [unheld])
    · exact left.quiet_of_other (by simp [unheld])
  refine given.granted (by simp [Part.assign, Radio.holder_bringUp]) fun k same => ?_
  exact (left.offAir_of_free free k same).sameVoice ((SameVoice.refl _).assign r h)

end Part.Owned

/-! ## Preemption -/

theorem Part.Unmoved.rcuOf {p q : Part} (h : Unmoved p q) (x : Holder) : q.rcuOf x = p.rcuOf x := by
  have held0 := (h.radio .rcu0).holder
  have held1 := (h.radio .rcu1).holder
  simp only [Part.radio] at held0 held1
  unfold Part.rcuOf
  rw [held0, held1]

theorem Part.Unmoved.losesToPreemption {g : Settings} {p q : Part} (h : Unmoved p q) (old : Holder) (r : RcuId) :
    Unmoved p (q.losesToPreemption g old r) := by
  cases old
  case survey => exact h.surveyLosesRcu r
  case test =>
    have idle : Unmoved p ((q.removeSweep r).recordIdle .test) := ((h.removeSweep r).emptyPlan .test).modTest
    unfold Part.losesToPreemption Part.testPreempted
    dsimp only
    split
    · exact (show Unmoved p (Part.writeTest _ _) from idle.frame).modTest
    · exact idle
  case window => exact h.frame
  all_goals exact h

theorem Part.SameVoice.preempt {g : Settings} {p q : Part} (h : SameVoice p q) (x : Holder) (r : RcuId) :
    SameVoice p (q.preempt g x r) := by
  have moved := (h.moved (((Unmoved.refl q).unbeginItem r).holderLeaves r)).assign r x
  unfold Part.preempt
  dsimp only
  split
  · exact (moved.moved ((Unmoved.refl _).losesToPreemption _ r)).frame.granted x r
  · exact moved.frame.granted x r

theorem Part.SameVoice.claim {g : Settings} {p q : Part} (h : SameVoice p q) (w : Waiting) :
    SameVoice p (q.claim g w) := by
  unfold Part.claim
  split
  · exact h
  · split
    · exact h.grant _ _
    · split
      · exact h.preempt _ _
      · exact h.frame

namespace Part.Owned

variable {g : Settings} {p q : Part}

/-- An RCU is taken from the survey, the test or the window, which then withdraws. -/
theorem takeFrom (own : p.Owned) {h old : Holder} {r : RcuId} (free : p.rcuOf h = none)
    (heldOld : (p.radio r).holder = some old) (notSide : ∀ d : Side, old ≠ d.record.holder) :
    (((p.assign r h).losesToPreemption g old r).leaveQueue h).Owned := by
  have up := (Radio.Unmoved.refl { p.radio r with holder := some h }).bringUp
  have new : (p.assign r h).radio r = Radio.bringUp { p.radio r with holder := some h } := by simp [Part.assign]
  have told := (Unmoved.refl (p.assign r h)).losesToPreemption (g := g) old r
  refine own.reassign (r := r) free ?_ ?_ (fun c hc surveys => ?_) ?_ ?_
    (own.quiet_of_other fun d => by simpa [heldOld] using notSide d)
    ((((SameVoice.refl p).assign r h).moved told).frame) fun d => ?_
  · rw [Part.radio_leaveQueue, (told.radio r).holder, new, up.holder]
  · rw [Part.radio_leaveQueue, ← Bool.not_eq_true]
    intro broken
    have unheld := own.brokenUnassigned r (up.broken (new ▸ (told.radio r).broken broken))
    simp [heldOld] at unheld
  · rw [Part.radio_leaveQueue] at hc
    obtain ⟨c', hc', surveys'⟩ := (told.radio r).sweep c hc surveys
    obtain ⟨c'', hc'', surveys''⟩ := up.sweep c' (new ▸ hc') surveys'
    have survey := own.backgroundSweeps r c'' hc'' surveys''
    rw [heldOld] at survey
    cases survey
    simp [Part.losesToPreemption, Part.surveyLosesRcu] at hc
  · rw [Part.radio_leaveQueue, ← Part.radio_assign_ne p (RcuId.other_ne r) h]
    exact told.radio r.other
  · simp [Part.leaveQueue, told.claims]
  · rw [Part.call_leaveQueue, told.state d, Part.call_assign]

theorem preempt (own : p.Owned) {h : Holder} {r : RcuId} (free : p.rcuOf h = none) (victim : p.victimRcu = some r) :
    (p.preempt g h r).Owned := by
  obtain ⟨old, heldOld, notSide⟩ : ∃ old, (p.radio r).holder = some old ∧ ∀ d : Side, old ≠ d.record.holder := by
    obtain held | held | held := p.victimRcu_holder victim
    all_goals exact ⟨_, held, fun d => by cases d <;> decide⟩
  have left := ((Unmoved.refl p).unbeginItem r).holderLeaves r
  have told := (Unmoved.refl (((p.unbeginItem r).holderLeaves r).assign r h)).losesToPreemption (g := g) old r
  have taken := (own.unmoved left).takeFrom (g := g) (h := h) ((left.rcuOf h).trans free)
    ((left.radio r).holder.trans heldOld) notSide
  unfold Part.preempt
  simp only [heldOld]
  refine taken.granted ?_ fun k same => ?_
  · rw [Part.radio_leaveQueue, (told.radio r).holder]
    simp [Part.assign, Radio.holder_bringUp]
  · exact (own.offAir_of_free free k same).sameVoice (((((SameVoice.refl p).moved left).assign r h).moved told).frame)

theorem claim (own : p.Owned) (w : Waiting) : (p.claim g w).Owned := by
  unfold Part.claim
  split
  · exact own
  · next idle =>
    obtain ⟨free, notWaiting⟩ : p.rcuOf w.claimant = none ∧ p.waits w.claimant = false := by simpa using idle
    split
    · next r hr =>
      refine own.grant free (p.grantNow_grantable ?_)
      unfold Part.claimGrant at hr
      split at hr
      · cases hr
      · exact hr
    · split
      · next r hr =>
        refine own.preempt free ?_
        split at hr
        · exact hr
        · cases hr
      · have members := joinQueue_perm w p.claims
        refine ⟨own.oneRcuPerHolder, ?_, fun h r held => ?_, own.backgroundSweeps, own.brokenUnassigned, own.voice⟩
        · refine (members.map _).nodup_iff.mpr (List.nodup_cons.mpr ⟨fun twice => ?_, own.waitsOnce⟩)
          obtain ⟨x, hx, same⟩ := List.mem_map.mp twice
          exact absurd same (by simpa using List.any_eq_false.mp notWaiting x hx)
        · have old := own.waitsUnassigned h r held
          unfold Part.waits at old ⊢
          rw [members.any_eq, List.any_cons, old, Bool.or_false, beq_eq_false_iff_ne]
          rintro rfl
          exact (p.rcuOf_eq_none _).mp free r held

end Part.Owned

end Sys2Proof.Machine

/-! # Who holds what: sweeps, the window, calls, faults and every step -/

namespace Sys2Proof.Machine

set_option Elab.async false

/-! ## Operations that leave the voice paths -/

namespace Part.SameVoice

variable {g : Settings} {p q : Part}

theorem handOver (h : SameVoice p q) (giving receiving : Holder) (r : RcuId) :
    SameVoice p (q.handOver giving receiving r) := by
  unfold Part.handOver
  split
  · exact (h.moved ((Unmoved.refl q).holderLeaves r)).assign r _
  · split
    · exact h.releaseRcu r
    · exact h

theorem closeWindow (h : SameVoice p q) : SameVoice p q.closeWindow := by
  have closed : SameVoice p { q with window := none } := h.frame
  unfold Part.closeWindow
  split
  · exact h
  · dsimp only
    split
    · exact closed
    all_goals
      split
      · exact closed.releaseRcu _
      · exact closed

theorem giveUpRcu (h : SameVoice p q) (k : RecId) (d : Option Side) (r : RcuId) :
    SameVoice p (q.giveUpRcu k d r) := by
  unfold Part.giveUpRcu
  split
  · split
    · exact (h.handOver _ _ r).frame
    · exact (h.moved ((Unmoved.refl q).closeLent k)).releaseRcu r
  · exact h.releaseRcu r

theorem openWindow (h : SameVoice p q) (d : Side) (r : RcuId) (c : CarrierKey) :
    SameVoice p (q.openWindow g d r c) := by
  have handed := h.closeWindow.handOver d.record.holder .window r
  unfold Part.openWindow
  dsimp only
  split
  · exact handed.frame
  · exact handed

theorem passOn (h : SameVoice p q) (k : RecId) (r : RcuId) : SameVoice p (q.passOn g k r) := by
  have chosen : SameVoice p (q.campChoice g) := h.frame
  unfold Part.passOn
  split
  · dsimp only
    split
    · exact chosen.openWindow _ r _
    · exact chosen.giveUpRcu k _ r
  · exact h.giveUpRcu k _ r

end Part.SameVoice

namespace Part.Owned

variable {g : Settings} {p q : Part}

/-! ## Sweeps of the survey's -/

theorem surveyReleases (own : p.Owned) {r : RcuId} (quiet : ∀ d, p.voice d ≠ some r) :
    (p.surveyReleases g r).Owned := by
  have lost := (Unmoved.refl p).surveyLosesRcu (g := g) r
  refine (own.unmoved lost).releaseRcu (fun d => ?_) ?_
  · rw [lost.voice d]
    exact quiet d
  · simp [Part.surveyLosesRcu]

theorem surveyGivesUp (own : p.Owned) {r : RcuId} (held : (p.radio r).holder = some .survey) :
    (p.surveyReleases g r).Owned :=
  own.surveyReleases (own.quiet_of_lower held rfl)

theorem requestSweep (own : p.Owned) (kind : BackgroundKind) : (p.requestSweep g kind).Owned := by
  have asked : Part.Owned { p with survey := { p.survey with state := .waiting, kind := some kind } } := own.frame
  unfold Part.requestSweep
  split
  · exact asked.claim _
  · exact asked.claim _
  all_goals exact own

theorem sweepAdvances (own : p.Owned) (r : RcuId) : (p.sweepAdvances g r).Owned := by
  unfold Part.sweepAdvances
  split
  · exact own
  · next c hc =>
    have held : c.isBackground = true → (p.radio r).holder = some .survey :=
      fun surveys => own.backgroundSweeps r c hc (.inl surveys)
    split
    · exact own.unmoved ((Unmoved.refl p).beginItem r _ _)
    · cases hk : c.kind with
      | full => exact own.surveyGivesUp (held (by simp [Sweep.isBackground, hk]))
      | refresh => exact own.surveyGivesUp (held (by simp [Sweep.isBackground, hk]))
      | call k => exact own.unmoved ((Unmoved.refl p).completeCallSweep r k)

theorem surveyExpires (own : p.Owned) : (p.surveyExpires g).Owned := by
  have counted : Part.Owned { p with survey := { p.survey with passCount := nextPass p.survey.passCount } } := own.frame
  unfold Part.surveyExpires
  dsimp only
  split
  · exact own
  · split
    · exact own
    · exact counted
    · exact counted
    · exact counted
    · exact counted.requestSweep _

theorem listChanged (own : p.Owned) (had : Bool) : (p.listChanged g had).Owned := by
  unfold Part.listChanged
  split
  · split
    · exact own.frame
    · exact own.requestSweep _
  · exact own.frame
  · exact own

theorem sweepEnding (own : p.Owned) {r : RcuId} (held : (p.radio r).holder = some .survey) :
    (p.sweepEnding r).Owned := by
  have left := ((Unmoved.refl p).abandon r).abandonMeasurement r
  exact ((own.unmoved left).surveySweep ((left.radio r).holder.trans held)
    (f := fun x => { x with sweep := x.sweep.map fun c => { c.dropItem with state := .ending } })).frame

theorem shedSweep (own : p.Owned) : (p.shedSweep g).Owned := by
  unfold Part.shedSweep
  split <;> try exact own
  · exact (own.leaveQueue _).frame
  · split
    · exact own
    · next r hr =>
      have held := p.rcuOf_holder hr
      split
      · exact own
      · split
        · exact own.surveyGivesUp held
        · exact own.surveyGivesUp held
        · exact own.sweepEnding held

/-! ## The callback window -/

/-- A holder other than the survey hands its RCU over. -/
theorem handOver (own : p.Owned) {giving receiving : Holder} {r : RcuId} (notSurvey : giving ≠ .survey)
    (quiet : (p.radio r).holder = some giving → ∀ d, p.voice d ≠ some r) : (p.handOver giving receiving r).Owned := by
  have left := (Unmoved.refl p).holderLeaves r
  unfold Part.handOver
  split
  · next moves =>
    obtain ⟨held, free, idle⟩ := moves
    have stays := own.unmoved left
    refine stays.assign ((left.rcuOf _).trans free) ?_ ?_ (stays.ownSweep ?_) fun d => ?_
    · unfold Part.waits
      rw [left.claims]
      exact idle
    · rw [← Bool.not_eq_true]
      intro broken
      have unheld := own.brokenUnassigned r ((left.radio r).broken broken)
      simp [held] at unheld
    · rw [(left.radio r).holder, held]
      simpa using notSurvey
    · rw [left.voice d]
      exact quiet held d
  · split
    · next held => exact own.releaseOwn (quiet held) (by simpa [held] using notSurvey)
    · exact own

theorem windowGivesUp (own : p.Owned) {r : RcuId} (held : (p.radio r).holder = some .window) : (p.releaseRcu r).Owned :=
  own.releaseOwn (own.quiet_of_lower held rfl) (by simp [held])

theorem recordGivesUp (own : p.Owned) {r : RcuId} {k : RecId} (held : (p.radio r).holder = some k.holder)
    (off : p.OffAir k) : (p.releaseRcu r).Owned :=
  own.releaseOwn (own.quiet_of_record held off) (by cases k <;> simp [held, RecId.holder])

theorem closeWindow (own : p.Owned) : p.closeWindow.Owned := by
  have closed : Part.Owned { p with window := none } := own.frame
  unfold Part.closeWindow
  split
  · exact own
  · dsimp only
    split
    · exact closed
    all_goals
      split
      · next hr => exact closed.windowGivesUp (Part.rcuOf_holder _ hr)
      · exact closed

theorem campFailure (own : p.Owned) : (p.campFailure g).Owned := by
  unfold Part.campFailure
  split
  · exact own
  · next w _ =>
    have chosen : Part.Owned ((p.dropStackKey w.campKey.key).campChoice g) := own.frame
    dsimp only
    split
    · exact chosen.frame
    · exact chosen.closeWindow

/-- A record with an open voice path hands its RCU to the window. -/
theorem handToWindow (own : p.Owned) {d : Side} (off : p.OffAir d.record) (r : RcuId) :
    (p.handOver d.record.holder .window r).Owned :=
  own.handOver (by cases d <;> decide) fun held => own.quiet_of_record held off

theorem openWindow (own : p.Owned) {d : Side} (off : p.OffAir d.record) (r : RcuId) (c : CarrierKey) :
    (p.openWindow g d r c).Owned := by
  have handed := own.closeWindow.handToWindow (off.sameVoice (SameVoice.refl p).closeWindow) r
  unfold Part.openWindow
  dsimp only
  split
  · exact handed.frame
  · exact handed

theorem giveUpRcu (own : p.Owned) {k : RecId} {r : RcuId} (held : (p.radio r).holder = some k.holder)
    (off : p.OffAir k) {d : Option Side} (side : d = k.side) : (p.giveUpRcu k d r).Owned := by
  have released : ∀ u, Unmoved p u → (u.releaseRcu r).Owned := fun u same =>
    (own.unmoved same).recordGivesUp ((same.radio r).holder.trans held) (off.sameVoice same.voice)
  unfold Part.giveUpRcu
  split
  · next d w _ =>
    have record := RecId.record_of_side side.symm
    split
    · subst record
      exact (own.handToWindow off r).frame
    · exact released _ ((Unmoved.refl p).closeLent k)
  · exact released _ (.refl p)

theorem passOn (own : p.Owned) {k : RecId} {r : RcuId} (held : (p.radio r).holder = some k.holder)
    (off : p.OffAir k) : (p.passOn g k r).Owned := by
  have chosen : Unmoved p (p.campChoice g) := (Unmoved.refl p).frame
  have offNow := off.sameVoice chosen.voice
  unfold Part.passOn
  split
  · next d _ side =>
    have record := RecId.record_of_side side
    dsimp only
    split
    · subst record
      exact (own.unmoved chosen).openWindow offNow r _
    · exact (own.unmoved chosen).giveUpRcu ((chosen.radio r).holder.trans held) offNow side.symm
  · exact own.giveUpRcu held off rfl

theorem windowPaged (own : p.Owned) (r : RcuId) : (p.windowPaged r).Owned := by
  unfold Part.windowPaged
  split
  · exact own
  · next w _ =>
    split
    · next d hd =>
      have idle : (p.call d.record).state = .idle := by
        unfold Part.pageChoice at hd
        split at hd
        · cases hd; assumption
        · split at hd
          · cases hd; assumption
          · cases hd
      have off := own.offAir_of_state (k := d.record) (by simp [idle])
      have handed := (SameVoice.refl p).handOver .window d.record.holder r
      have given : (p.handOver .window d.record.holder r).Owned := own.handOver (by decide) fun held =>
        own.quiet_of_lower held rfl
      have lent : Part.Owned { p.handOver .window d.record.holder r with window := some { w with state := .lent d } } :=
        given.frame
      exact lent.setCall (off.sameVoice handed.frame) _
    · exact (show Part.Owned { p with window := _ } from own.frame).unmoved ((Unmoved.refl _).offer r _)

/-! ## Calls -/

theorem writeTest (own : p.Owned) (x : TestResult) : (p.writeTest x).Owned := own.frame

theorem recordIdle (own : p.Owned) {k : RecId} (off : p.OffAir k) : (p.recordIdle k).Owned := by
  have empty := (Unmoved.refl p).emptyPlan k
  exact (own.unmoved empty).modCall (off.sameVoice empty.voice) _

theorem leaveConnected (own : p.Owned) (k : RecId) (r : RcuId) :
    (p.leaveConnected k r).Owned ∧ (p.leaveConnected k r).OffAir k := by
  unfold Part.leaveConnected
  cases hk : k.side with
  | none =>
    have left := ((Unmoved.refl p).endContinuous r).modCall k
      (f := fun c => { c with fadeCount := 0, fading := false })
    refine ⟨own.unmoved left, ?_⟩
    cases k <;> cases hk
    exact Part.offAir_test _
  | some d =>
    obtain rfl := RecId.record_of_side hk
    have left := ((Unmoved.refl (p.setVoice d none)).endContinuous r).modCall d.record
      (f := fun c => { c with fadeCount := 0, fading := false })
    exact ⟨(own.openVoice d).unmoved left, (Part.offAir_side (by simp)).sameVoice left.voice⟩

theorem enterClearing (own : p.Owned) {k : RecId} (off : p.OffAir k) : (p.enterClearing k).Owned := by
  have empty := (Unmoved.refl p).emptyPlan k
  have cleared := (own.unmoved empty).modCall (off.sameVoice empty.voice) CallRec.toClearing
  unfold Part.enterClearing
  dsimp only
  split
  · exact cleared.unmoved (((Unmoved.refl _).dropCallSweep k _).modRadio _ fun x => (Radio.Unmoved.refl x).clear)
  · exact cleared

theorem leaveClearing (own : p.Owned) {k : RecId} (off : p.OffAir k) : (p.leaveClearing g k).Owned := by
  unfold Part.leaveClearing
  split
  · next r hr =>
    exact (own.passOn (p.rcuOf_holder hr) off).recordIdle (off.sameVoice ((SameVoice.refl p).passOn k r))
  · exact own.recordIdle off

theorem failTry (own : p.Owned) {k : RecId} (off : p.OffAir k) (cause : Cause) : (p.failTry k cause).Owned :=
  own.modCall off _

/-- A change of the record, and an order of it. -/
theorem modCallOffer (own : p.Owned) {k : RecId} (off : p.OffAir k) (f : CallRec → CallRec) (r : RcuId) (o : Order) :
    ((p.modCall k f).offer r o).Owned := (own.modCall off f).unmoved ((Unmoved.refl _).offer r o)

theorem endRound (own : p.Owned) {k : RecId} (off : p.OffAir k) : (p.endRound k).Owned := by
  have passed := own.modCall off fun c => { c with cursor := max c.cursor c.plan.length }
  have offNow := off.sameVoice (p.voice_modCall k fun c => { c with cursor := max c.cursor c.plan.length })
  unfold Part.endRound
  cases k
  · exact passed.modCall offNow _
  · exact passed.modCall offNow _
  · exact ((passed.modCall offNow _).writeTest _).enterClearing (Part.offAir_test _)

theorem beginNext (own : p.Owned) {k : RecId} (off : p.OffAir k) (r : RcuId) : (p.beginNext g k r).Owned := by
  unfold Part.beginNext
  dsimp only
  split
  · split
    · exact (own.modCall (Part.offAir_test p) _).endRound (Part.offAir_test _)
    · exact own.modCallOffer off _ r _
  · split
    · unfold Part.beginTry
      split
      · exact own
      · exact own.modCallOffer off _ r _
    · exact own.endRound off

theorem offerDial (own : p.Owned) {k : RecId} (off : p.OffAir k) (r : RcuId) : (p.offerDial g k r).Owned := by
  unfold Part.offerDial
  split
  · exact own
  · dsimp only
    split
    · exact own.failTry off _
    · exact own.modCallOffer off _ r _

theorem attachAccepted (own : p.Owned) {k : RecId} (off : p.OffAir k) (r : RcuId)
    (report : Option (CarrierKey × AccessKind × Barring)) : (p.attachAccepted g k r report).Owned := by
  have dial : ∀ u, Unmoved p u → (u.offerDial g k r).Owned := fun u same =>
    (own.unmoved same).offerDial (off.sameVoice same.voice) r
  unfold Part.attachAccepted
  split
  · exact own
  · split
    · exact dial _ ((Unmoved.refl p).blindAccepted k _ _ _ _)
    · exact dial _ (((Unmoved.refl p).modTarget _ _).modCall k)

theorem attachFails (own : p.Owned) {k : RecId} (off : p.OffAir k) (cause : Cause) (f : Entry → Entry) :
    (p.attachFails k cause f).Owned := by
  unfold Part.attachFails
  split
  · exact own
  · have written := (Unmoved.refl p).modTarget
    exact (own.unmoved (written _ f)).failTry (off.sameVoice (written _ f).voice) _

theorem attachRefused (own : p.Owned) {k : RecId} (off : p.OffAir k) (r : RcuId) (cause : Cause)
    (f : Access → Entry → Entry) : (p.attachRefused k r cause f).Owned := by
  unfold Part.attachRefused
  split
  · exact own
  · split
    · exact own.unmoved ((((Unmoved.refl p).modTarget _ _).modCall k).offer r _)
    · exact own.attachFails off _ _

theorem announce (own : p.Owned) {k : RecId} (off : p.OffAir k) (r : RcuId) : (p.announce g k r).Owned := by
  unfold Part.announce
  split
  · exact own
  · exact own.modCallOffer off _ r _

theorem dialRejected (own : p.Owned) {k : RecId} (off : p.OffAir k) (r : RcuId) : (p.dialRejected k r).Owned := by
  unfold Part.dialRejected
  split
  · exact own
  · split
    · exact own.modCallOffer off _ r _
    · exact own.failTry off _
    · have written := (Unmoved.refl p).modTarget
      exact (own.unmoved (written _ _)).failTry (off.sameVoice (written _ _).voice) _

theorem noAnswer (own : p.Owned) {k : RecId} (off : p.OffAir k) (r : RcuId) : (p.noAnswer k r).Owned := by
  unfold Part.noAnswer
  split
  · exact own
  · split
    · exact own.modCallOffer off _ r _
    · exact own.modCallOffer off _ r _

theorem releaseDone (own : p.Owned) {k : RecId} (off : p.OffAir k) : (p.releaseDone k).Owned := by
  unfold Part.releaseDone
  split
  · split
    · exact own
    · exact own.failTry off _
  · exact own

/-- R117: a record is connected on the RCU it holds. -/
theorem connect (own : p.Owned) {d : Side} {r : RcuId} (held : (p.radio r).holder = some d.record.holder) (a : Attempt) :
    (p.connect d.record d r a).Owned := by
  unfold Part.connect
  dsimp only
  split
  · exact (own.closeVoice held fun _ => rfl).unmoved
      ((show Unmoved _ (Part.pushStack _ _) from (Unmoved.refl _).frame).startContinuous r _)
  · exact (own.closeVoice held fun _ => rfl).unmoved ((Unmoved.refl _).startContinuous r _)

theorem noteEnds (own : p.Owned) {k : RecId} (off : p.OffAir k) {r : RcuId}
    (held : (p.radio r).holder = some k.holder) (delivered : Bool) : (p.noteEnds k r delivered).Owned := by
  unfold Part.noteEnds
  generalize hu : (if delivered then p else p.modCall k fun c => { c with lastCause := .noteFailed }) = u
  have told : Unmoved p u := by
    subst hu
    split
    · exact .refl p
    · exact (Unmoved.refl p).modCall k
  have kept := own.unmoved told
  dsimp only
  split
  · next d a side _ =>
    obtain rfl := RecId.record_of_side side
    exact kept.connect ((told.radio r).holder.trans held) a
  · exact kept
  · exact (kept.writeTest _).enterClearing (off.sameVoice (show SameVoice p (Part.writeTest _ u) from told.sameVoice.frame))

theorem callbackAnswered (own : p.Owned) {k : RecId} {r : RcuId} (held : (p.radio r).holder = some k.holder) :
    (p.callbackAnswered k r).Owned := by
  unfold Part.callbackAnswered
  split
  · next d cell side _ =>
    obtain rfl := RecId.record_of_side side
    exact (own.unmoved ((Unmoved.refl p).modCall d.record)).connect (by simpa using held) _
  · exact own

theorem drop (own : p.Owned) (k : RecId) (r : RcuId) : (p.drop g k r).Owned := by
  have dropped : ∀ u : Part, u.Owned → u.OffAir k → ((u.modCall k (CallRec.dropped g)).buildRegainPlan g k).Owned :=
    fun u own off => (own.modCall off _).unmoved ((Unmoved.refl _).buildRegainPlan k)
  unfold Part.drop
  dsimp only
  split
  · obtain ⟨left, off⟩ := own.leaveConnected k r
    exact dropped _ left off
  · next state => exact dropped p own (own.offAir_of_state state)

theorem recordLinkLost (own : p.Owned) {k : RecId} {r : RcuId} (held : (p.radio r).holder = some k.holder) :
    (p.recordLinkLost g k r).Owned := by
  unfold Part.recordLinkLost
  split
  · exact own.drop k r
  · exact own.drop k r
  · exact own.drop k r
  · next state _ => exact own.failTry (own.offAir_of_state (by simp [state])) _
  · next state _ => exact own.noteEnds (own.offAir_of_state (by simp [state])) held _
  · exact own

theorem recordFarRelease (own : p.Owned) {k : RecId} {r : RcuId} (held : (p.radio r).holder = some k.holder) :
    (p.recordFarRelease g k r).Owned := by
  unfold Part.recordFarRelease
  split
  · obtain ⟨left, off⟩ := own.leaveConnected k r
    have told := (Unmoved.refl (p.leaveConnected k r)).modCall k (f := fun c => { c with lastCause := .noCause })
    exact (left.unmoved told).enterClearing (off.sameVoice told.voice)
  · exact own.recordLinkLost held

/-! ## Outcomes -/

theorem recordTakes (own : p.Owned) {k : RecId} {r : RcuId} (held : (p.radio r).holder = some k.holder) (o : Order)
    (x : ModuleOutcome) : (p.recordTakes g k r o x).Owned := by
  have off := own.offAir_of_state (k := k)
  unfold Part.recordTakes
  split
  · next state => exact own.attachAccepted (off (by simp [state])) r _
  · next state => exact own.attachAccepted (off (by simp [state])) r _
  · next state => exact own.attachRefused (off (by simp [state])) r _ _
  · next state => exact own.attachRefused (off (by simp [state])) r _ _
  · next state => exact own.attachFails (off (by simp [state])) _ _
  · next state => exact own.attachFails (off (by simp [state])) _ _
  · next state => exact own.modCall (off (by simp [state])) _
  · next state => exact own.announce (off (by simp [state])) r
  · next state => exact own.dialRejected (off (by simp [state])) r
  · next state => exact own.releaseDone (off (by simp [state]))
  · next state => exact own.noteEnds (off (by simp [state])) held _
  · next state => exact own.noteEnds (off (by simp [state])) held _
  · exact own.callbackAnswered held
  · exact own

theorem windowTakes (own : p.Owned) (o : Order) (x : ModuleOutcome) : (p.windowTakes g o x).Owned := by
  unfold Part.windowTakes
  split
  · exact own.frame
  · exact own.campFailure
  · exact own

theorem report (own : p.Owned) (r : RcuId) (o : Order) (x : ModuleOutcome) : (p.report g r o x).Owned := by
  unfold Part.report
  split
  · exact own.unmoved ((Unmoved.refl p).takeSettled r)
  · exact own.unmoved ((Unmoved.refl p).sweepTakes r x)
  · split
    · next held => exact own.recordTakes (k := .sideA) held o x
    · next held => exact own.recordTakes (k := .sideB) held o x
    · next held => exact own.recordTakes (k := .test) held o x
    · exact own.windowTakes o x
    · exact own
    · exact own

end Part.Owned

end Sys2Proof.Machine

/-! # Who holds what: faults, notices, expiries and every step -/

namespace Sys2Proof.Machine

set_option Elab.async false

theorem Radio.holder_faulted (x : Radio) : x.faulted.holder = none := by
  unfold Radio.faulted
  dsimp only
  split <;> rfl

theorem Radio.sweep_faulted (x : Radio) : x.faulted.sweep = x.sweep := by
  unfold Radio.faulted
  dsimp only
  split <;> rfl

/-! ## An RCU lost to a fault -/

/-- From `p` to `u`, an RCU has lost its holder and any sweep of the survey's, and nothing else has moved. The voice
path of a record that held it is still closed. -/
structure Part.LosesRcu (p : Part) (r : RcuId) (u : Part) : Prop where
  unheld : (u.radio r).holder = none
  sweep : ∀ c, (u.radio r).sweep = some c → ¬ c.surveys
  other : Radio.Unmoved (p.radio r.other) (u.radio r.other)
  claims : u.claims = p.claims
  voice : p.SameVoice u
  state : ∀ d : Side, (u.call d.record).state = (p.call d.record).state

namespace Part.LosesRcu

variable {g : Settings} {p u v : Part} {r : RcuId}

theorem moved (h : LosesRcu p r u) (same : Unmoved u v) : LosesRcu p r v where
  unheld := (same.radio r).holder.trans h.unheld
  sweep c hc surveys := by
    obtain ⟨c', hc', surveys'⟩ := (same.radio r).sweep c hc surveys
    exact h.sweep c' hc' surveys'
  other := h.other.trans (same.radio r.other)
  claims := same.claims.trans h.claims
  voice := h.voice.moved same
  state d := (same.state d).trans (h.state d)

theorem owned (h : LosesRcu p r u) (own : p.Owned) (quiet : ∀ d, p.voice d ≠ some r) : u.Owned :=
  own.unassign h.unheld h.sweep h.other h.claims (fun d hv => quiet d (h.voice d ▸ hv))
    fun d _ hv => ⟨h.voice d ▸ hv, h.state d⟩

theorem offAir (h : LosesRcu p r u) (own : p.Owned) {k : RecId} (state : (u.call k).state ≠ .connected) :
    p.OffAir k := by
  cases k
  · exact own.offAir_of_state (k := .sideA) (h.state .a ▸ state)
  · exact own.offAir_of_state (k := .sideB) (h.state .b ▸ state)
  · exact Part.offAir_test p

/-- R134: the voice path of the record that held the RCU opens. -/
theorem revokeConnected (h : LosesRcu p r u) (own : p.Owned) {k : RecId}
    (held : (p.radio r).holder = some k.holder) : (u.revokeConnected g k).Owned := by
  unfold Part.revokeConnected
  cases hk : k.side with
  | none =>
    have off : p.OffAir k := by cases k <;> cases hk; exact Part.offAir_test p
    have empty := (Unmoved.refl u).emptyPlan k
    exact ((h.owned own (own.quiet_of_record held off)).unmoved empty).modCall
      ((off.sameVoice h.voice).sameVoice empty.voice) _
  | some d =>
    obtain rfl := RecId.record_of_side hk
    have empty := (Unmoved.refl (u.setVoice d none)).emptyPlan d.record
    have opened : ∀ d', d' ≠ d → (u.setVoice d none).voice d' = u.voice d' := by
      intro d' ne
      cases d <;> cases d' <;> first | rfl | exact absurd rfl ne
    have open' : (u.setVoice d none).Owned := by
      refine own.unassign (r := r) (by simpa using h.unheld) (by simpa using h.sweep) (by simpa using h.other)
        (by simpa using h.claims) (fun d' hv => ?_) fun d' r' hv => ?_
      · by_cases same : d' = d
        · subst same
          simp at hv
        · rw [opened d' same, h.voice d'] at hv
          exact same (Side.record_injective
            (RecId.holder_injective (Option.some.inj ((own.voice d' r hv).2.symm.trans held))))
      · by_cases same : d' = d
        · subst same
          simp at hv
        · rw [opened d' same, h.voice d'] at hv
          exact ⟨hv, by simpa using h.state d'⟩
    exact (open'.unmoved empty).modCall ((Part.offAir_side (by simp)).sameVoice empty.voice) _

end Part.LosesRcu

namespace Part.Owned

variable {g : Settings} {p q : Part}

theorem loses (p : Part) (r : RcuId) (u : Part) (moved : Unmoved ((p.supplyOff r).modRadio r Radio.faulted) u)
    (sweep : ∀ c, (u.radio r).sweep = some c → ¬ c.surveys) : LosesRcu p r u := by
  have off := (Unmoved.refl p).supplyOff r
  refine ⟨?_, sweep, ?_, ?_, ?_, fun d => ?_⟩
  · rw [(moved.radio r).holder, Part.radio_modRadio_self, Radio.holder_faulted]
  · have other := moved.radio r.other
    rw [Part.radio_modRadio_other] at other
    exact (off.radio r.other).trans other
  · rw [moved.claims, Part.claims_modRadio, off.claims]
  · exact (((SameVoice.refl p).moved off).modRadio r _).moved moved
  · rw [moved.state d, Part.call_modRadio, off.state d]

/-- The sweep on the RCU is removed at once. -/
theorem losesSweep (p : Part) (r : RcuId) :
    LosesRcu p r (((p.supplyOff r).modRadio r Radio.faulted).removeSweep r) :=
  loses p r _ ((Unmoved.refl _).removeSweep r) (by simp)

/-- An RCU that the survey does not hold has no sweep of the survey's. -/
theorem losesOwn (own : p.Owned) {r : RcuId} (held : (p.radio r).holder ≠ some .survey) :
    LosesRcu p r ((p.supplyOff r).modRadio r Radio.faulted) := by
  refine loses p r _ (.refl _) fun c hc surveys => ?_
  rw [Part.radio_modRadio_self, Radio.sweep_faulted] at hc
  obtain ⟨c', hc', surveys'⟩ := (((Unmoved.refl p).supplyOff r).radio r).sweep c hc surveys
  exact own.ownSweep held c' hc' surveys'

theorem requeue (own : p.Owned) (k : RecId) : (p.requeue g k).Owned := own.claim _

theorem requeueUndone (own : p.Owned) {k : RecId} (off : p.OffAir k) : (p.requeueUndone g k).Owned := by
  have told := (Unmoved.refl p).modCall k (f := fun c => { c with lastCause := .moduleFault })
  have given := ((own.unmoved told).requeue (g := g) k).leaveQueue k.holder
  have voice : SameVoice p (((p.modCall k fun c => { c with lastCause := .moduleFault }).requeue g k).leaveQueue
      k.holder) := (told.sameVoice.claim (g := g) { claimant := k.holder, requeued := true }).frame
  unfold Part.requeueUndone
  dsimp only
  split
  · next r hr =>
    exact (given.recordGivesUp (Part.rcuOf_holder _ hr) (off.sameVoice voice)).recordIdle
      (off.sameVoice (voice.releaseRcu r))
  · exact given.recordIdle (off.sameVoice voice)

theorem recordRevoked (own : p.Owned) {r : RcuId} {k : RecId} (held : (p.radio r).holder = some k.holder) :
    ((((p.supplyOff r).modRadio r Radio.faulted).removeSweep r).recordRevoked g k).Owned := by
  have lost := (losesSweep p r).moved ((Unmoved.refl _).closeLent k)
  have left := fun state => lost.owned own (own.quiet_of_record held (lost.offAir own (k := k) state))
  have off := fun state => (lost.offAir own (k := k) state).sameVoice lost.voice
  have seeker := fun state => ((left state).unmoved ((Unmoved.refl _).emptyPlan k)).modCall
    ((off state).sameVoice ((Unmoved.refl _).emptyPlan k).voice) CallRec.revoked
  unfold Part.recordRevoked
  dsimp only
  split
  case h_6 => exact (lost.revokeConnected own held).claim _
  case h_7 state => exact (left (by simp [state])).requeueUndone (off (by simp [state]))
  case h_8 state => exact (left (by simp [state])).requeueUndone (off (by simp [state]))
  case h_9 state => exact left (by simp [state])
  case h_10 state => exact left (by simp [state])
  all_goals
    next state => exact (seeker (by simp [state])).claim _

theorem moduleFault (own : p.Owned) (r : RcuId) : (p.moduleFault g r).Owned := by
  have told : (((p.supplyOff r).modRadio r Radio.faulted).tellRevoked g (p.radio r).holder r).Owned := by
    unfold Part.tellRevoked
    split
    · next held => exact own.recordRevoked (k := .sideA) held
    · next held => exact own.recordRevoked (k := .sideB) held
    · next held => exact own.recordRevoked (k := .test) held
    · next held =>
      exact ((losesSweep p r).owned own (own.quiet_of_lower held rfl)).frame
    · next held =>
      exact ((own.losesOwn (r := r) (by simp [held])).owned own (own.quiet_of_lower held rfl)).frame
    · next held => exact (own.losesOwn (by simp [held])).owned own (own.quiet_of_other (by simp [held]))
  exact told.frame

/-! ## Notices, outcomes and limits -/

theorem readyFaults (own : p.Owned) (r : RcuId) : (p.readyFaults g r).Owned :=
  (own.unmoved ((Unmoved.refl p).unbeginItem r)).moduleFault r

theorem returnRadio (own : p.Owned) (r : RcuId) : (p.returnRadio r).Owned := by
  have back : Part.Owned (p.modRadio r fun x =>
      let y := { x with recoveryTimer := none }
      if p.power.level != .shed || p.reserveOnReturn r then y.boot else { y with condition := .off }) := by
    refine own.unmoved ((Unmoved.refl p).modRadio r fun x => ?_)
    dsimp only
    split <;> exact (Radio.Unmoved.refl x).condition rfl
  exact back.frame

theorem restoreRadio (own : p.Owned) (r : RcuId) : (p.restoreRadio r).Owned := by
  unfold Part.restoreRadio
  split
  · exact (own.unmoved ((Unmoved.refl p).plainRadio r)).returnRadio r
  · exact own

theorem takeReady (own : p.Owned) (r : RcuId) : (p.takeReady g r).Owned := by
  unfold Part.takeReady
  split
  case h_1 => exact own.unmoved ((Unmoved.refl p).conditionRadio r)
  case h_7 => exact own
  case h_8 => exact own
  case h_9 => exact own
  all_goals exact own.readyFaults r

theorem holder_of_record {h : Option Holder} {k : RecId} (hk : h.bind Holder.record = some k) : h = some k.holder := by
  cases h with
  | none => cases hk
  | some x => cases x <;> cases hk <;> rfl

theorem takeLoss (own : p.Owned) (far : Bool) (r : RcuId) : (p.takeLoss g far r).Owned := by
  have left := fun slot => ((Unmoved.refl p).leaveInCall r).plainRadio r (f := fun x => { x with slot := slot })
  have held := fun slot k (hk : (p.radio r).holder.bind Holder.record = some k) =>
    ((left slot).radio r).holder.trans (holder_of_record hk)
  unfold Part.takeLoss
  split
  · dsimp only
    split
    · next hk => exact (own.unmoved (left _)).recordTakes (held _ _ hk) _ _
    · next hk =>
      split
      · exact (own.unmoved (left _)).recordFarRelease (held _ _ hk)
      · exact (own.unmoved (left _)).recordLinkLost (held _ _ hk)
    · exact own.unmoved (left _)
  · exact own

theorem takeAnswered (own : p.Owned) (r : RcuId) : (p.takeAnswered g r).Owned := by
  have kept : Part.Owned (p.setRadio r { p.radio r with answerTimer := none }) :=
    own.unmoved ((Unmoved.refl p).plainRadio r (f := fun x => { x with answerTimer := none }))
  unfold Part.takeAnswered
  dsimp only
  split
  · split
    · split
      · next state => exact kept.announce (kept.offAir_of_state (by rw [state]; decide)) r
      · exact kept
    · exact kept
  · exact own

theorem takePaged (own : p.Owned) (r : RcuId) : (p.takePaged r).Owned := by
  have awake : Part.Owned (p.modRadio r fun x => { x with condition := .awake }) :=
    own.unmoved ((Unmoved.refl p).conditionRadio r)
  unfold Part.takePaged
  dsimp only
  split
  · split
    · exact awake.windowPaged r
    · exact awake
  · exact own

theorem takeCellLost (own : p.Owned) (r : RcuId) : (p.takeCellLost g r).Owned := by
  have awake : Part.Owned (p.modRadio r fun x => { x with condition := .awake }) :=
    own.unmoved ((Unmoved.refl p).conditionRadio r)
  unfold Part.takeCellLost
  dsimp only
  split
  · split
    · exact awake.campFailure
    · exact awake
  · exact own

theorem takeNotice (own : p.Owned) (n : Notice) (r : RcuId) : (p.takeNotice g n r).Owned := by
  cases n
  · exact own.takeReady r
  · exact own.takeLoss false r
  · exact own.takeLoss true r
  · exact own.takeAnswered r
  · exact own.takePaged r
  · exact own.takeCellLost r

theorem takeOutcome (own : p.Owned) (r : RcuId) (o : Pending) (x : ModuleOutcome) : (p.takeOutcome g r o x).Owned := by
  have emptied : Unmoved p (p.modRadio r fun y => { y with slot := none }) := (Unmoved.refl p).plainRadio r
  have timed : ∀ u, Unmoved p u → Unmoved p (u.startAnswerTimer g r x) := by
    intro u same
    unfold Part.startAnswerTimer
    split
    · exact same.plainRadio r
    · exact same
  have changed := own.unmoved ((timed _ (emptied.applyOutcome r o.order x)).prove r)
  unfold Part.takeOutcome
  dsimp only
  split
  · exact changed.report r _ x
  · exact changed

theorem takeCancelDone (own : p.Owned) (r : RcuId) (o : Pending) : (p.takeCancelDone r o).Owned := by
  refine own.unmoved (((Unmoved.refl p).modRadio r fun x => ?_).prove r)
  dsimp only
  split
  · exact (show Radio.Unmoved x { x with slot := none } from (Radio.Unmoved.refl x).frame).send _ _
  · exact (Radio.Unmoved.refl x).frame

theorem outcomeArrives (own : p.Owned) (r : RcuId) (x : ModuleOutcome) (tag : Nat) :
    (p.outcomeArrives g r x tag).Owned := by
  unfold Part.outcomeArrives
  split
  · split
    · split
      · exact own.takeCancelDone r _
      · exact own
    · split
      · exact own.takeOutcome r _ x
      · exact own
  · exact own

theorem frameArrives (own : p.Owned) (r : RcuId) (bytes : List Byte) : (p.frameArrives g r bytes).Owned := by
  unfold Part.frameArrives
  split
  · next f _ =>
    split
    · cases f
      · exact own.unmoved ((Unmoved.refl p).modRadio r fun x => (Radio.Unmoved.refl x).acknowledge _)
      · exact own.outcomeArrives r _ _
      · exact own.takeNotice _ r
    · exact own
  · exact own

theorem attachTimeout (own : p.Owned) (r : RcuId) : (p.attachTimeout r).Owned := by
  unfold Part.attachTimeout
  split
  · split
    · next state => exact own.attachFails (own.offAir_of_state (by simp [state])) _ _
    · exact own
  · exact own

theorem reportSubstitute (own : p.Owned) (r : RcuId) (o : Order) : (p.reportSubstitute g r o).Owned := by
  unfold Part.reportSubstitute
  cases o
  case listen => exact own.report r _ _
  case attach => exact own.attachTimeout r
  case attachAny => exact own.attachTimeout r
  case dial => exact own.report r _ _
  case sendNote => exact own.report r _ _
  case reject => exact own.report r _ _
  case release => exact own.report r _ _
  all_goals exact own

theorem failureExpiry (own : p.Owned) (r : RcuId) : (p.failureExpiry g r).Owned := by
  unfold Part.failureExpiry
  split
  · unfold Part.failureExpires
    split
    · exact (own.reportSubstitute r _).unmoved (((Unmoved.refl _).applyOutcome r _ _).abandon r)
    · exact own.unmoved (((Unmoved.refl p).plainRadio r).applyOutcome r _ _)
  · exact own

theorem answerExpires (own : p.Owned) (r : RcuId) : (p.answerExpires r).Owned := by
  have stopped : Part.Owned (p.modRadio r fun x => { x with answerTimer := none }) :=
    own.unmoved ((Unmoved.refl p).plainRadio r)
  unfold Part.answerExpires
  dsimp only
  split
  · split
    · next state => exact stopped.noAnswer (stopped.offAir_of_state (by rw [state]; decide)) r
    · exact stopped
  · exact stopped

/-! ## Power and conversions -/

theorem takeBattery (own : p.Owned) (b : Nat) : (p.takeBattery g b).Owned := by
  have sampled : Part.Owned { p with power := p.power.sample g b } := own.frame
  unfold Part.takeBattery Part.levelChanged
  split
  · exact sampled.shedSweep.closeWindow
  · exact sampled

theorem conversionComplete (own : p.Owned) (v : Microvolts) : (p.conversionComplete v g).Owned := by
  unfold Part.conversionComplete
  split
  · next c _ =>
    have delivered : (p.deliverResult g c).Owned := by
      unfold Part.deliverResult
      split
      · exact own
      · unfold Part.deliver
        split
        · exact own.unmoved ((Unmoved.refl p).takeLevelCode _ _)
        · exact own.takeBattery _
    unfold Part.advanceConverter
    dsimp only
    split
    · exact delivered.frame
    · exact delivered.frame
  · exact own

/-! ## Commands of the ports -/

theorem startCall (own : p.Owned) {k : RecId} (off : p.OffAir k) : (p.startCall k).Owned :=
  (show Part.Owned { p with callSequence := _ } from own.frame).setCall
    (off.sameVoice (show SameVoice p { p with callSequence := _ } from (SameVoice.refl p).frame)) _

theorem onRcu (own : p.Owned) (k : RecId) {f : RcuId → Part → Part}
    (each : ∀ r, p.callRcu k = some r → (f r p).Owned) : (p.onRcu k f).Owned := by
  unfold Part.onRcu
  split
  · next r hr => exact each r hr
  · exact own

theorem hangUp (own : p.Owned) (k : RecId) : (p.hangUp k).Owned := by
  have off := own.offAir_of_state (k := k)
  unfold Part.hangUp
  split
  case h_1 state =>
    exact (own.leaveQueue _).recordIdle ((off (by simp [state])).sameVoice (SameVoice.refl p).frame)
  case h_7 =>
    unfold Part.onRcu
    split
    · next r _ =>
      obtain ⟨left, offNow⟩ := own.leaveConnected k r
      exact left.enterClearing offNow
    · next free => exact own.enterClearing (own.offAir_of_rcu free)
  case h_8 => exact own
  case h_9 => exact own
  case h_10 => exact own
  all_goals
    next state => exact own.enterClearing (off (by simp [state]))

theorem answerCall (own : p.Owned) (k : RecId) : (p.answerCall k).Owned := by
  have inHand := (Unmoved.refl p).modCall k (f := fun c => { c with ringTimer := none, answerInHand := true })
  exact (own.unmoved inHand).onRcu k fun r _ => (own.unmoved inHand).unmoved ((Unmoved.refl _).offer r .answer)

theorem callResult_idle {k : RecId} (h : p.callResult k = .accepted) : (p.call k).state = .idle := by
  unfold Part.callResult at h
  split at h
  · assumption
  · cases h

theorem panelEffect (own : p.Owned) (k : RecId) (code : Byte) : (p.panelEffect k code g).Owned := by
  unfold Part.panelEffect
  split
  · next accepted number =>
    have idle := callResult_idle (p := p) (k := k) (by simpa [Part.panelResult, number] using accepted)
    exact (own.startCall (own.offAir_of_state (by simp [idle]))).claim _
  · exact own.hangUp k
  · exact own.answerCall k
  · exact own

theorem cabinetEffect (own : p.Owned) (code parameter : Byte) : (p.cabinetEffect code parameter g).Owned := by
  unfold Part.cabinetEffect
  split
  · exact (show Part.Owned { p.startCall .test with testResult := .running, testSequence := _ } from
      (own.startCall (Part.offAir_test p)).frame).claim _
  · exact own.requestSweep _
  · exact own.frame
  · split
    · exact own.restoreRadio _
    · exact own
  · exact own

theorem ringTimeout (own : p.Owned) {k : RecId} (rings : (p.call k).rings = true) : (p.ringTimeout k).Owned := by
  have off : p.OffAir k := own.offAir_of_state (by
    intro connected
    simp [CallRec.rings, connected] at rings)
  have expired := (Unmoved.refl p).modCall k (f := CallRec.ringExpired)
  unfold Part.ringTimeout Part.onRcu
  split
  · next r _ =>
    have told := expired.offer r .reject
    exact (own.unmoved told).enterClearing (off.sameVoice told.voice)
  · exact (own.unmoved expired).enterClearing (off.sameVoice expired.voice)

/-! ## Reactions and the end of an event -/

/-- The head of the queue holds no RCU. -/
theorem head_free (own : p.Owned) {w : Waiting} (head : p.claims.head? = some w) : p.rcuOf w.claimant = none := by
  rw [p.rcuOf_eq_none]
  intro r held
  have idle := own.waitsUnassigned w.claimant r held
  unfold Part.waits at idle
  exact absurd (List.any_eq_false.mp idle w (List.mem_of_mem_head? head)) (by simp)

theorem run (own : p.Owned) {x : Reaction} (enabled : x.enabled p = true) : (x.run g p).Owned := by
  cases x
  case testNoRadio =>
    exact ((own.writeTest _).leaveQueue .test).recordIdle (Part.offAir_test _)
  case wake r => exact own.unmoved ((Unmoved.refl p).conditionRadio r)
  case releaseCall r => exact own.unmoved ((Unmoved.refl p).plainRadio r)
  case preemptWaiting =>
    unfold Reaction.run Part.preemptForHead
    dsimp only
    split
    · next head victim => exact own.preempt (own.head_free head) victim
    · exact own
  case serve =>
    unfold Reaction.run Part.serveHead
    dsimp only
    split
    · next head granted => exact own.grant (own.head_free head) (p.grantNow_grantable granted)
    · exact own
  case endSweep r =>
    obtain ⟨c, hc, ending⟩ : ∃ c, (p.radio r).sweep = some c ∧ c.state = .ending := by
      simp only [Reaction.enabled, Bool.and_eq_true, Option.any_eq_true, beq_iff_eq] at enabled
      exact enabled.1
    exact own.surveyGivesUp (own.backgroundSweeps r c hc (.inr ending))
  case clearingRelease k => exact own.onRcu k fun r _ => own.unmoved ((Unmoved.refl p).offer r .release)
  case leaveClearing k =>
    have state : (p.call k).state = .clearing := by
      simp only [Reaction.enabled, Bool.and_eq_true, beq_iff_eq] at enabled
      exact enabled.1
    exact own.leaveClearing (own.offAir_of_state (by simp [state]))
  case dialPublic k =>
    have state : (p.call k).state = .dialling := by
      simp only [Reaction.enabled, Part.turnsPublic, Bool.and_eq_true, beq_iff_eq] at enabled
      exact enabled.1.1
    exact own.onRcu k fun r _ => own.offerDial (own.offAir_of_state (by simp [state])) r
  case sweepItem r => exact own.sweepAdvances r
  case seekStart k => exact own.onRcu k fun r _ => own.unmoved ((Unmoved.refl p).beginRound k r)
  case seekNext k =>
    have state : (p.call k).state = .seeking := by
      simp only [Reaction.enabled, Part.seeks, Bool.and_eq_true, beq_iff_eq] at enabled
      exact enabled.1.1
    exact own.onRcu k fun r _ => own.beginNext (own.offAir_of_state (by simp [state])) r
  case camp =>
    unfold Reaction.run Part.offerCamp
    dsimp only
    split
    · exact own.unmoved ((Unmoved.refl p).offer _ _)
    · exact own
  case goOff r => exact own.unmoved ((Unmoved.refl p).goOff r)

/-- An event, from its own effect to its end. -/
theorem conclude {s : State} (own : q.Owned) : (s.conclude q).part.Owned := by
  have settled : (q.settle s.settings Config.settleFuel).Owned :=
    Part.settle_keeps s.settings Part.Owned (fun _ _ enabled own => own.run enabled) _ q own
  have timed := ((Unmoved.refl (q.settle s.settings Config.settleFuel)).modRadio .rcu0 fun x =>
    (Radio.Unmoved.refl x).dozeWait s.settings).modRadio .rcu1 fun x => (Radio.Unmoved.refl x).dozeWait s.settings
  exact (settled.unmoved timed).frame

/-! ## Every change -/

theorem ofEffect (own : p.Owned) (h : Part.Effect g p q) : q.Owned := by
  cases h with
  | frame r bytes => exact own.frameArrives r bytes
  | fault r => exact own.moduleFault r
  | failure r => exact own.failureExpiry r
  | noAnswer r => exact own.answerExpires r
  | doze r => exact own.unmoved ((Unmoved.refl p).conditionRadio r)
  | recovery r => exact own.returnRadio r
  | pause k => exact own.unmoved ((Unmoved.refl p).modCall k)
  | regain k => exact own.unmoved ((Unmoved.refl p).modCall k)
  | ring k rings => exact own.ringTimeout rings
  | window => exact own.closeWindow
  | survey =>
    exact (show Part.Owned { p with survey := { p.survey with timer := some (g.surveyTime p.power.level) } } from
      own.frame).surveyExpires
  | conversion v => exact own.conversionComplete v
  | gate r => exact own.unmoved (((Unmoved.refl p).plainRadio r).formPair r)
  | panel k code => exact own.panelEffect k code
  | cabinet code parameter => exact own.cabinetEffect code parameter
  | list had => exact own.listChanged had

theorem elapse (own : p.Owned) (us : Nat) : (p.elapse us).Owned := by
  have one : ∀ beat, ∀ x : Radio, Radio.Unmoved x (x.elapse us beat) := fun beat x =>
    (show Radio.Unmoved x { x with sweep := x.sweep.map fun c => { c with endedNow := false } } from
      (Radio.Unmoved.refl x).mapSweep (fun _ => rfl) fun _ => rfl).frame
  exact (own.unmoved (((Unmoved.refl p).modRadio .rcu0 (one (frameBeats us p.frameClock))).modRadio .rcu1
    (one (frameBeats us p.frameClock)))).frame

theorem ofSilent (own : p.Owned) (h : Part.Silent g p q) : q.Owned := by
  cases h with
  | receiver r x => exact own.unmoved ((Unmoved.refl p).plainRadio r)
  | line src v => exact own.frame
  | gateOpen r high => exact own.unmoved ((Unmoved.refl p).plainRadio r)
  | edge r => exact own.unmoved ((Unmoved.refl p).plainRadio r)
  | window r v =>
    unfold Part.windowCloses
    split
    · exact own.unmoved (((show Unmoved p (p.setLine _ v) from (Unmoved.refl p).frame).plainRadio r).requestConversion _)
    · exact own
  | sample v =>
    unfold Part.sampleExpires
    split
    · exact own.frame
    · exact own
  | age t => exact own.frame
  | second t =>
    have counted : ∀ c : CallRec, c.second.state = c.state := fun c => by
      unfold CallRec.second
      split <;> rfl
    exact own.frame (stateA := counted _) (stateB := counted _)
  | notices n => exact own.frame
  | holds low again t => exact own.frame
  | elapse us => exact own.elapse us

theorem release (own : p.Owned) : (p.release g).Owned := by
  have booted := ((Unmoved.refl p).conditionRadio .rcu0 (f := Radio.boot)).conditionRadio .rcu1 (f := Radio.boot)
  unfold Part.release
  dsimp only
  split
  · exact (show Part.Owned (Part.requestConversion .battery _) from (own.unmoved booted).frame).requestSweep _
  · exact (own.unmoved booted).frame

end Part.Owned

/-! ## The holds and every step -/

theorem Part.owned_held (lines : AnalogLines) (m : PowerMonitor) : (Part.held lines m).Owned where
  oneRcuPerHolder h held := by cases held
  waitsOnce := List.nodup_nil
  waitsUnassigned h r held := by cases r <;> cases held
  backgroundSweeps r c hc := by cases r <;> cases hc
  brokenUnassigned r _ := by cases r <;> rfl
  voice d r hv := by cases d <;> cases hv

theorem State.Change.owned {s t : State} (h : s.Change t) (own : s.part.Owned) : t.part.Owned := by
  cases h with
  | event q effect => exact (own.ofEffect effect).conclude
  | silent q silent => exact own.ofSilent silent
  | ports t part => rw [part]; exact own
  | write => exact own
  | powerOn => exact Part.owned_held _ _
  | brownOut => exact Part.owned_held _ _
  | cabinetReset => exact Part.owned_held _ _
  | release => exact own.release

/-- Settles O59: every change keeps the holders, the claims, the survey's sweeps and the voice paths. -/
theorem voicePathsFollowConnectedCalls : Obligations.VoicePathsFollowConnectedCalls :=
  fun _ _ own h => step_keeps (I := fun s => s.part.Owned) (fun _ _ change => change.owned) (fun _ _ own => own) h own

/-- Settles O60: the state after reset is a part in its hold with the default settings. -/
theorem resetIsSafe : Obligations.ResetIsSafe :=
  ⟨Settings.ok_default, Part.keyed_held _ _, Part.inRange_held _ rfl, Part.owned_held _ _⟩

end Sys2Proof.Machine

/-! # Time and the ends of events -/

namespace Sys2Proof.Machine

set_option Elab.async false

/-! ## A step with an empty queue -/

theorem Conversion.code_finish_trialTime (n t : Nat) (c : Conversion) :
    (({ c with trialTime := t } : Conversion).finish n).code = (c.finish n).code := by
  induction n generalizing c with
  | zero => rfl
  | succ n ih => exact ih c.trial

theorem Conversion.result_trial {c : Conversion} (more : c.trials < 6) : c.trial.result = c.result := by
  unfold Conversion.result
  rw [show 6 - c.trials = 6 - c.trial.trials + 1 by simp only [Conversion.trial]; omega]
  rfl

/-- R24: the trials made in the meantime leave the result. -/
theorem Conversion.result_elapse (us : Nat) (c : Conversion) : (c.elapse us).result = c.result := by
  unfold Conversion.elapse
  split
  · next more =>
    split
    · exact (code_finish_trialTime _ _ c.trial).trans (result_trial more)
    · exact code_finish_trialTime _ _ c
  · rfl

theorem Conversion.trials_elapse (us : Nat) (c : Conversion) : c.trials ≤ (c.elapse us).trials := by
  unfold Conversion.elapse
  split
  · split
    · exact Nat.le_succ _
    · exact le_rfl
  · exact le_rfl

theorem Conversion.inputs_elapse (us : Nat) (c : Conversion) : (c.elapse us).source = c.source ∧
    (c.elapse us).vin = c.vin ∧ (c.elapse us).withdrawn = c.withdrawn := by
  unfold Conversion.elapse
  split
  · split <;> exact ⟨rfl, rfl, rfl⟩
  · exact ⟨rfl, rfl, rfl⟩

theorem GateCounter.bareTick_open {c : GateCounter} (runs : c.mode = .opened ∨ c.mode = .continuous)
    (left : 1 < c.ticksLeft) : c.bareTick = { c with ticksLeft := c.ticksLeft - 1 } := by
  obtain runs | runs := runs <;> simp [bareTick, runs, left]

theorem GateCounter.bareTick_still {c : GateCounter}
    (still : (c.mode ≠ .opened ∧ c.mode ≠ .continuous) ∨ c.ticksLeft ≤ 1) : c.bareTick = c := by
  unfold bareTick
  split
  · next runs => rw [if_neg (by simpa [runs] using still)]
  · next runs => rw [if_neg (by simpa [runs] using still)]
  · rfl
  · rfl

theorem step_of_empty {s : State} (empty : s.pending = []) : step s = .next s.idle := by
  unfold step
  rw [empty]

/-- Settles O3: the step elapses 20 µs, and only the converter and the gates do more than count down. -/
theorem idleStepOnlyPassesTime : Obligations.IdleStepOnlyPassesTime := by
  intro s empty
  refine ⟨s.part.converter.current.map (Conversion.elapse 20), fun r =>
    if frameBeats 20 s.part.frameClock then (s.part.radio r).gate.bareTick else (s.part.radio r).gate, ?_,
    fun r => ⟨fun beats runs left => ?_, fun still => ?_⟩, fun none => ?_, fun c hc => ?_⟩
  · exact (step_of_empty empty).trans rfl
  · exact (if_pos beats).trans (GateCounter.bareTick_open runs left)
  · split
    · next beats =>
      refine GateCounter.bareTick_still (still.resolve_left ?_)
      simpa [frameBeats] using beats
    · rfl
  · rw [none]; rfl
  · obtain ⟨source, vin, withdrawn⟩ := c.inputs_elapse 20
    exact ⟨c.elapse 20, by rw [hc]; rfl, source, vin, withdrawn, c.result_elapse 20, c.trials_elapse 20⟩

/-! ## The end of an event -/

theorem Part.settle_first (g : Settings) {p : Part} {front back : List Reaction} {x : Reaction}
    (list : allReactions = front ++ x :: back) (before : ∀ y ∈ front, y.enabled p = false) (enabled : x.enabled p = true)
    (n : Nat) : p.settle g (n + 1) = (x.run g p).settle g n := by
  have next : p.nextReaction = some x := by
    unfold Part.nextReaction
    rw [list, List.find?_append, List.find?_eq_none.mpr fun y hy => by simp [before y hy]]
    simp [enabled]
  rw [Part.settle, next]

theorem Part.settle_of_none (g : Settings) {p : Part} (none : ∀ x ∈ allReactions, x.enabled p = false) (n : Nat) :
    p.settle g n = p := by
  have next : p.nextReaction = Option.none := List.find?_eq_none.mpr fun x hx => by simp [none x hx]
  cases n with
  | zero => rfl
  | succ n => rw [Part.settle, next]

/-- R72: the doze timer at the end of an event. -/
def Radio.dozeTimerAfter (g : Settings) (x : Radio) : Timer :=
  if x.isReady && x.holder.isNone then some (x.dozeTimer.getD (g.dozeDelay * Config.second)) else none

theorem Radio.dozeWait_eq (g : Settings) (x : Radio) : x.dozeWait g = { x with dozeTimer := x.dozeTimerAfter g } := by
  unfold Radio.dozeWait Radio.dozeTimerAfter
  split
  · cases hx : x.dozeTimer with
    | none => rfl
    | some n => cases x; cases hx; rfl
  · rfl

theorem CallRec.callEvent_iff (c d : CallRec) : c.callEvent d = true ↔
    c.state ≠ d.state ∧ (c.state = .idle ∨ d.state = .connected ∨ d.state = .idle) := by
  simp [CallRec.callEvent, or_assoc]

theorem CallRec.differs_iff (c d : CallRec) : c.differs d = true ↔
    c.state ≠ d.state ∨ c.rounds ≠ d.rounds ∨ c.segments ≠ d.segments ∨ c.lastCause ≠ d.lastCause := by
  simp [CallRec.differs, or_assoc]

theorem State.endEvent_eq (s : State) (p : Part) : s.endEvent p = { s with
    part := { p with
      radio0 := { p.radio0 with dozeTimer := p.radio0.dozeTimerAfter s.settings }
      radio1 := { p.radio1 with dozeTimer := p.radio1.dozeTimerAfter s.settings }
      notices := { p.notices with
        powerChanged := p.notices.powerChanged || p.power.level != s.cabinet.reportedLevel
        callEvent := p.notices.callEvent || s.part.sideA.callEvent p.sideA || s.part.sideB.callEvent p.sideB } }
    panelA := s.panelA.compare s.part.sideA p.sideA (p.indication .a) p.power.level
    panelB := s.panelB.compare s.part.sideB p.sideB (p.indication .b) p.power.level
    cabinet := { s.cabinet with reportedLevel := p.power.level } } := by
  have timers : p.dozeTimers s.settings = { p with
      radio0 := { p.radio0 with dozeTimer := p.radio0.dozeTimerAfter s.settings }
      radio1 := { p.radio1 with dozeTimer := p.radio1.dozeTimerAfter s.settings } } := by
    unfold Part.dozeTimers
    rw [Radio.dozeWait_eq, Radio.dozeWait_eq]
  unfold State.endEvent
  dsimp only
  rw [Part.indication_dozeTimers, Part.indication_dozeTimers, timers]
  rfl

/-- Settles O4: the reactions are taken from the front of the list, and the end of the event only compares. -/
theorem eventsEndWithTheirReports : Obligations.EventsEndWithTheirReports := by
  refine ⟨fun s p => rfl, fun g p n => ⟨rfl, fun none => Part.settle_of_none g none n,
    fun front x back list before enabled => Part.settle_first g list before enabled n⟩, fun s p => ?_⟩
  refine ⟨fun r => (p.radio r).dozeTimerAfter s.settings,
    p.notices.powerChanged || p.power.level != s.cabinet.reportedLevel,
    p.notices.callEvent || s.part.sideA.callEvent p.sideA || s.part.sideB.callEvent p.sideB,
    fun d => ((s.panel d).compare (s.part.call d.record) (p.call d.record) (p.indication d) p.power.level).notices,
    s.endEvent_eq p, fun r => ⟨fun waits => ?_, fun busy => ?_⟩, ?_, ?_, fun d => ⟨rfl, ?_, ?_, ?_⟩⟩
  · obtain ⟨awake, empty, free⟩ := waits
    simp [Radio.dozeTimerAfter, Radio.isReady, awake, empty, free, Config.second]
  · exact if_neg (by simpa [Radio.isReady, and_assoc] using busy)
  · simp
  · simp only [Bool.or_eq_true, CallRec.callEvent_iff, or_assoc]
    refine or_congr_right ⟨fun h => ?_, fun ⟨d, h⟩ => ?_⟩
    · exact h.elim (⟨.a, ·⟩) (⟨.b, ·⟩)
    · cases d
      · exact .inl h
      · exact .inr h
  · exact Bool.or_eq_true _ _ ▸ or_congr_right (CallRec.differs_iff _ _)
  · simp [PanelPort.compare]
  · simp [PanelPort.compare]

end Sys2Proof.Machine

/-! # Resets, the hold and the release -/

namespace Sys2Proof.Machine

set_option Elab.async false

theorem satInc_eq_min (top n : Nat) : satInc top n = min top (n + 1) := by
  unfold satInc
  split <;> omega

/-! ## What a reset writes -/

theorem execReset_hold (s : State) (parameter : Byte) (h : s.atStart .cabinet) :
    exec (.reset parameter) s = .next s.beginCabinetReset := by
  have select : s.cabinet.tx.select = true := by
    rw [show s.cabinet.tx = Transaction.start from h.2]
    rfl
  have write := s.writeItem_taken .cabinet 40 [31, parameter] h (by decide) rfl (by simp)
  have reset : State.takeWrite .cabinet (40 : Byte).toNat [31, parameter]
      (s.setTx .cabinet (Transaction.wrote (40 : Byte).toNat [31, parameter])) =
      (s.setTx .cabinet (Transaction.wrote (40 : Byte).toNat [31, parameter])).beginCabinetReset := rfl
  refine congrArg Host.Outcome.next (write.trans (reset.trans ?_))
  simp only [State.beginCabinetReset, State.hold, State.setTx, select]
  rfl

/-- A state of the machine whose blocks have just gone into a hold. -/
theorem State.reset_is_hold {s t : State} (h : exec .powerOn s = .next t ∨ exec .brownOutAssert s = .next t ∨
    (s.atStart .cabinet ∧ ∃ parameter, exec (.reset parameter) s = .next t)) :
    ∃ (low again : Bool) (hold : Timer) (cause : ResetCause) (n : Nat) (g : Settings),
      (low || hold.isSome) = true ∧ t = s.hold (Part.held s.part.lines
        { PowerMonitor.held low hold cause n with reasserted := again }) g := by
  obtain h | h | ⟨start, parameter, h⟩ := h
  · cases h
    exact ⟨true, false, none, _, _, _, rfl, rfl⟩
  · cases h
    exact ⟨true, _, _, _, _, _, rfl, rfl⟩
  · rw [execReset_hold s parameter start] at h
    cases h
    exact ⟨false, false, _, _, _, _, rfl, rfl⟩

/-- Settles O5: each reset holds the part at the values of the tables, and writes its cause and count. -/
theorem resetsWriteTheRecord : Obligations.ResetsWriteTheRecord := by
  intro s
  dsimp only
  rw [← satInc_eq_min]
  refine ⟨rfl, rfl, fun v t low h => ?_, fun parameter start => execReset_hold s parameter start, fun t h => ?_⟩
  · cases h
    have again : s.beginBrownOut.part.power.reasserted = true := low
    have supply : s.beginBrownOut.part.power.supplyLow = true := rfl
    change Host.Outcome.next (if s.beginBrownOut.part.power.supplyLow then
      if s.beginBrownOut.part.power.reasserted then s.beginBrownOut.overtaken else _ else _) = _
    rw [supply, again]
    rfl
  · obtain ⟨low, again, hold, cause, n, g, held, rfl⟩ := State.reset_is_hold h
    have dark : ∀ q, State.attention (s.hold (Part.held s.part.lines
        { PowerMonitor.held low hold cause n with reasserted := again }) g) q = false := by
      intro q
      cases q <;> simp [State.attention, State.hold, PanelPort.held, PanelNotices.none, PanelNotices.any, Part.held,
        CabinetNotices.none, CabinetNotices.any]
    exact ⟨held, rfl, rfl, rfl, rfl, rfl, rfl, rfl, rfl, rfl, rfl, rfl, rfl, rfl, rfl, rfl, rfl, rfl, rfl, rfl, rfl,
      fun d => by cases d <;> rfl,
      fun k => by cases k <;> exact ⟨rfl, rfl, rfl, rfl, rfl, rfl, rfl, rfl, rfl, rfl, rfl, rfl, rfl, rfl, rfl, rfl,
        rfl, rfl, rfl⟩,
      fun r => by cases r <;> exact ⟨rfl, rfl, rfl, rfl, rfl, rfl, rfl, rfl, rfl, rfl, rfl, rfl, rfl, rfl, rfl, rfl⟩,
      fun q => ⟨dark q, by cases q <;> exact ⟨rfl, rfl⟩⟩,
      fun d => by cases d <;> exact ⟨rfl, rfl, rfl⟩, rfl, rfl, rfl, rfl, rfl⟩

/-! ## In the hold -/

theorem State.receive_held {s : State} (held : s.isHeld = true) (r : RcuId) (bytes : List Byte) :
    s.receive r bytes = s := by
  induction bytes with
  | nil => rfl
  | cons b rest ih =>
    have kept : s.linkByte r b = s := if_pos held
    unfold State.receive at ih ⊢
    rw [List.foldl_cons, kept, ih]

theorem State.eventIf_held {s : State} (held : s.isHeld = true) (ok : Part → Bool) (f : Settings → Part → Part) :
    s.eventIf ok f = s := by
  unfold State.eventIf
  split
  · exact s.event_held f held
  · rfl

/-- The commands of the ports clock so many bytes, and do nothing else. -/
theorem exec_portBytes (s : State) {c : Instr} {q : PortId} {n : Nat} (h : portBytes c = some (q, n)) :
    ∃ early bytes, exec c s = .next (s.clockBytes q early bytes) ∧ bytes.length = n := by
  cases c <;> simp only [portBytes, Option.some.injEq, Prod.mk.injEq, reduceCtorEq] at h
  all_goals
    obtain ⟨rfl, rfl⟩ := h
    exact ⟨_, _, rfl, by simp [bytes2, bytes3]⟩

theorem Part.held_modRadio (lines : AnalogLines) (m : PowerMonitor) (r : RcuId) {f : Radio → Radio}
    (same : f Radio.held = Radio.held) : (Part.held lines m).modRadio r f = Part.held lines m := by
  cases r <;> simp [Part.modRadio, Part.setRadio, Part.radio, Part.held, same]

/-- Settles O6: a byte meets the hold before anything else, and an expiry finds its timer stopped. -/
theorem heldPartTakesNothing : Obligations.HeldPartTakesNothing := by
  intro s lines m c part held sample noSupply
  have still : ∀ r (f : Radio → Radio), f Radio.held = Radio.held → s.modPart (fun p => p.modRadio r f) = s := by
    intro r f same
    unfold State.modPart
    dsimp only
    rw [part, Part.held_modRadio lines m r same, ← part]
  refine ⟨fun q n bytes => ?_, fun q hc => ?_, fun q bytes early hc => ?_, fun r tag v hc => ?_,
    fun noBytes notSelect notDeselect notSettled => ?_⟩
  · obtain ⟨early, data, run, length⟩ := exec_portBytes s bytes
    rw [run, s.clockBytes_held q early held, length]
  · subst hc
    simp [exec, execSelectAssert, State.selectRises, held]
  · subst hc
    simp only [exec, execSelectDeassert, s.clockBytes_held q early held, State.selectFalls]
    rfl
  · subst hc
    have stays : (s.modPart (Part.setLine (.rcu r) v)).isHeld = true := held
    exact congrArg Host.Outcome.next (State.receive_held stays r _)
  · cases c
    case selectAssert q => exact absurd rfl (notSelect q)
    case selectDeassert q bytes early => exact absurd rfl (notDeselect q bytes early)
    case settled r tag v => exact absurd rfl (notSettled r tag v)
    case powerOn => cases noSupply
    case brownOutAssert => cases noSupply
    case brownOutDeassert => cases noSupply
    case cabinetHoldEnd => cases noSupply
    case linkGap r before =>
      simp only [exec, execLinkGap, State.receive_held held]
      rw [still r _ rfl]
    case gateOpen r high => exact congrArg Host.Outcome.next (still r _ rfl)
    case syncRisingEdge r => exact congrArg Host.Outcome.next (still r _ rfl)
    case continuousWindowClose r v =>
      have idle : (s.part.radio r).gate.mode ≠ .continuous := by
        rw [part]
        cases r <;> simp [Part.held, Part.radio, Radio.held, GateCounter.cleared]
      simp [exec, execContinuousWindowClose, State.modPart, Part.windowCloses, idle]
    case sampleTimerExpiry v =>
      have stopped : s.part.power.sampleTimer = none := by rw [part]; exact sample
      simp [exec, execSampleTimerExpiry, State.modPart, Part.sampleExpires, stopped]
    case ageTick => simp [exec, execAgeTick, State.ageTick, part, Part.held]
    case elapsedSecond => simp [exec, execElapsedSecond, State.elapsedSecond, part, Part.held]
    all_goals first
      | exact congrArg Host.Outcome.next (State.receive_held held _ _)
      | exact congrArg Host.Outcome.next (State.eventIf_held held _ _)
      | cases noBytes

/-! ## The release -/

/-- The inner blocks of a part that is released without a Channel List. -/
theorem Part.release_held_fields (g : Settings) (lines : AnalogLines) {m : PowerMonitor} (level : m.level = .normal)
    (empty : g.listHasItem = false) : let p := (Part.held lines m).release g
    p.frameClock = some 10000 ∧ p.secondTimer = some 1000000 ∧ p.power.sampleTimer = some 2000000 ∧
      p.converter.current = some (Conversion.begin .battery lines.battery) ∧
      p.ageTimer = some (g.agePeriod * 1000000) ∧ p.survey.timer = some (g.surveyPeriod * 1000000) ∧
      (∀ r, (p.radio r).condition = .booting ∧ (p.radio r).readyTimer = some 12000000 ∧ (p.radio r).holder = none) ∧
      p.survey.state = .notConfigured ∧ p.notices.resetOccurred = true := by
  have period : g.surveyTime m.level = g.surveyPeriod * 1000000 := by simp [Settings.surveyTime, level, Config.second]
  unfold Part.release
  simp only [empty]
  exact ⟨rfl, rfl, rfl, rfl, rfl, congrArg some period, fun r => by cases r <;> exact ⟨rfl, rfl, rfl⟩, rfl, rfl⟩

/-- R83: with an empty queue a claim is granted the RCU that the Arbiter names. -/
theorem Part.claim_granted (g : Settings) {p : Part} {w : Waiting} {r : RcuId} (free : p.rcuOf w.claimant = none)
    (empty : p.claims = []) (near : p.grantNow = some r) : p.claim g w = p.grant g w.claimant r := by
  have idle : p.waits w.claimant = false := by simp [Part.waits, empty]
  have grant : p.claimGrant w = some r := by simp [Part.claimGrant, empty, near]
  simp [Part.claim, free, idle, grant]

/-- R41: the kind of the sweep that a grant to the survey begins. -/
def Survey.grantKind (v : Survey) : SweepKind := if v.kind = some .refresh then .refresh else .full

/-- R85, R41: what a grant to the survey leaves of its RCU and of the engine. -/
theorem Part.grant_survey (g : Settings) (p : Part) (r : RcuId) :
    (p.grant g .survey r).survey = { p.survey with state := .sweeping } ∧
    (p.grant g .survey r).radio r = { Radio.bringUp { p.radio r with holder := some .survey } with
      sweep := some (Sweep.create p.survey.grantKind) } := by
  have kind : (match p.survey.kind with
      | some .refresh => SweepKind.refresh
      | some .full => SweepKind.full
      | none => SweepKind.full) = p.survey.grantKind := by
    unfold Survey.grantKind
    cases p.survey.kind with
    | none => rfl
    | some k => cases k <;> rfl
  refine ⟨by cases r <;> rfl, ?_⟩
  rw [← kind]
  cases r <;> rfl

/-- R185, R41, R85: with a Channel List the survey claims, and RCU 0 is as near as RCU 1. -/
theorem Part.release_held_sweeps (g : Settings) (lines : AnalogLines) {m : PowerMonitor} (level : m.level = .normal)
    (list : g.listHasItem = true) : let p := (Part.held lines m).release g
    p.survey.state = .sweeping ∧ p.survey.kind = some .full ∧ p.radio0.holder = some .survey ∧
      p.radio0.sweep = some (Sweep.create .full) ∧ p.radio1.holder = none ∧ p.radio0.condition = .booting ∧
      p.radio1.condition = .booting ∧ p.power.supplyLow = m.supplyLow ∧ p.power.cabinetHold = m.cabinetHold := by
  have granted : ∀ p : Part, p.claims = [] → p.radio0 = Radio.held.boot → p.radio1 = Radio.held.boot →
      p.power.level = .normal → p.claim g { claimant := .survey, requeued := false } = p.grant g .survey .rcu0 := by
    intro p claims radio0 radio1 level
    have near : p.nearest = some .rcu0 := by
      unfold Part.nearest
      rw [radio0, radio1]
      rfl
    refine Part.claim_granted g ?_ claims (by simp [Part.grantNow, near, Part.grantAllowed, level])
    unfold Part.rcuOf
    rw [radio0, radio1]
    rfl
  unfold Part.release
  simp only [list, if_true]
  unfold Part.requestSweep
  dsimp only
  rw [show (Part.requestConversion _ _).survey.state = SurveyState.notConfigured from rfl]
  dsimp only
  rw [granted _ rfl rfl rfl level]
  exact ⟨rfl, rfl, rfl, rfl, rfl, rfl, rfl, rfl, rfl⟩

theorem State.isHeld_endSupplyLow (s : State) (v : Microvolts) :
    ((s.setBattery v).endSupplyLow).isHeld = s.part.power.cabinetHold.isSome := Bool.false_or _

theorem State.isHeld_endCabinetHold (s : State) (v : Microvolts) :
    ((s.setBattery v).endCabinetHold).isHeld = s.part.power.supplyLow := Bool.or_false _

theorem exec_brownOutDeassert (s : State) (v : Microvolts) (low : s.part.power.supplyLow = true) :
    exec (.brownOutDeassert v) s = .next (if s.part.power.reasserted then s.overtaken
      else if s.part.power.cabinetHold.isSome then (s.setBattery v).endSupplyLow
      else ((s.setBattery v).endSupplyLow).release) := by
  simp only [exec, execBrownOutDeassert, low, if_true, State.releaseIfFree, State.isHeld_endSupplyLow]

theorem exec_cabinetHoldEnd (s : State) (v : Microvolts) (hold : s.part.power.cabinetHold.isSome = true) :
    exec (.cabinetHoldEnd v) s = .next (if s.part.power.supplyLow then (s.setBattery v).endCabinetHold
      else ((s.setBattery v).endCabinetHold).release) := by
  simp only [exec, execCabinetHoldEnd, hold, if_true, State.releaseIfFree, State.isHeld_endCabinetHold]

/-- Settles O7: the last cause that ends releases the part, and the release starts the clocks and the radios. -/
theorem releaseStartsThePart : Obligations.ReleaseStartsThePart := by
  refine ⟨fun s lines m v part sample level list => ?_, fun s lines m v part level low hold list => ?_⟩
  · have power : s.part.power = m := by rw [part]; rfl
    refine ⟨fun low again hold => ?_, fun low stays => ?_, fun low hold => ?_, fun low hold => ?_, fun t ht => ?_⟩
    · rw [exec_brownOutDeassert s v (by rw [power, low])]
      simp [power, again, hold]
    · rw [exec_brownOutDeassert s v (by rw [power, low])]
      by_cases again : m.reasserted = true
      · refine ⟨s.overtaken, by simp [power, again], ?_, rfl⟩
        simp [State.overtaken, State.isHeld, Part.isHeld, PowerMonitor.assertedAgain, power, low]
      · have hold := stays.resolve_left again
        refine ⟨(s.setBattery v).endSupplyLow, by simp [power, again, hold], ?_, rfl⟩
        rw [State.isHeld_endSupplyLow, power, hold]
    · rw [exec_cabinetHoldEnd s v (by rw [power, hold])]
      simp [power, low]
    · rw [exec_cabinetHoldEnd s v (by rw [power, hold])]
      refine ⟨(s.setBattery v).endCabinetHold, by simp [power, low], ?_, rfl⟩
      rw [State.isHeld_endCabinetHold, power, low]
    · obtain ⟨u, m', level', part', list', ports, rfl⟩ : ∃ (u : State) (m' : PowerMonitor), m'.level = .normal ∧
          u.part = Part.held { lines with battery := v } m' ∧ u.settings = s.settings ∧
          (∀ q, u.tx q = s.tx q) ∧ t = u.release := by
        obtain rfl | rfl := ht
        · refine ⟨(s.setBattery v).endSupplyLow, { m with supplyLow := false }, level, ?_, rfl,
            fun q => by cases q <;> rfl, rfl⟩
          simp only [State.setBattery, State.endSupplyLow, State.modPart, part]
          rfl
        · refine ⟨(s.setBattery v).endCabinetHold, { m with cabinetHold := none }, level, ?_, rfl,
            fun q => by cases q <;> rfl, rfl⟩
          simp only [State.setBattery, State.endCabinetHold, State.modPart, part]
          rfl
      have started := Part.release_held_fields u.settings { lines with battery := v } level' (list' ▸ list)
      rw [← part', list'] at started
      obtain ⟨clock, second, sampling, conversion, age, survey, radios, state, occurred⟩ := started
      refine ⟨?_, ?_, ?_, ?_, ?_, ?_, ?_, ?_, ?_, rfl, rfl, fun q => ?_⟩
      all_goals simp only [State.release, list']
      · exact clock
      · exact second
      · exact sampling
      · exact conversion
      · exact age
      · exact survey
      · exact radios
      · exact state
      · exact occurred
      · rw [← ports q]
        cases q <;> rfl
  · have power : s.part.power = m := by rw [part]; rfl
    refine ⟨((s.setBattery v).endCabinetHold).release, ?_, ?_⟩
    · rw [exec_cabinetHoldEnd s v (by rw [power, hold])]
      simp [power, low]
    · have sweeps := Part.release_held_sweeps s.settings { lines with battery := v }
        (m := { m with cabinetHold := none }) level list
      obtain ⟨state, kind, holder, sweep, free, cond0, cond1, supply, cabinet⟩ := sweeps
      have same : (((s.setBattery v).endCabinetHold).release).part =
          (Part.held { lines with battery := v } { m with cabinetHold := none }).release s.settings := by
        simp only [State.release, State.setBattery, State.endCabinetHold, State.modPart, part]
        rfl
      simp only [State.isHeld, Part.isHeld, same]
      exact ⟨state, kind, holder, sweep, free, cond0, cond1, by rw [supply, cabinet, low]; rfl⟩

end Sys2Proof.Machine

/-! # Module links: frames, orders and the slot -/

namespace Sys2Proof.Machine

set_option Elab.async false

/-! ## Frames and orders -/

/-- Settles O8: a frame is read back byte by byte, and the frames of the tables are evaluated. -/
theorem framesFollowTheTables : Obligations.FramesFollowTheTables :=
  ⟨⟨fun _ _ _ short => parseFrame_linkFrame _ _ _ short, fun _ _ _ _ _ _ hears short frame =>
    State.receive_taken _ _ _ _ _ _ hears short frame⟩, by decide⟩

theorem Order.failsSoft_iff (o : Order) : o.failsSoft = true ↔ (∃ k, o = .listen k) ∨ (∃ k a, o = .attach k a) ∨
    o = .attachAny ∨ (∃ l, o = .dial l) ∨ (∃ n, o = .sendNote n) ∨ o = .reject ∨ o = .release := by
  cases o <;> simp [Order.failsSoft]

theorem Order.needsRelease_iff (o : Order) : o.needsRelease = true ↔ (∃ k a, o = .attach k a) ∨ o = .attachAny ∨
    (∃ l, o = .dial l) ∨ o = .answer := by
  cases o <;> simp [Order.needsRelease]

theorem Radio.offer_eq (x : Radio) (o : Order) :
    x.offer o = if x.slot = none ∧ o.allowedIn x.condition = true then x.send o .holder else x := by
  simp [Radio.offer]

/-- Settles O9: the sending and the limits are the tables' by definition. -/
theorem ordersTakeTagAndLimit : Obligations.OrdersTakeTagAndLimit :=
  ⟨fun x o _ => ⟨rfl, x.offer_eq o⟩, fun _ _ _ _ _ => ⟨rfl, rfl, rfl, rfl, rfl, rfl, rfl, rfl, rfl, rfl, rfl, rfl,
    Order.failsSoft_iff, Order.needsRelease_iff⟩⟩

/-! ## Acknowledgements -/

theorem State.acknowledgement_taken {s : State} {r : RcuId} {tag : Byte} (hears : s.hears r) (low : 1 ≤ tag.toNat)
    (high : tag.toNat ≤ 15) :
    exec (.moduleAcknowledgement r tag) s = .next (s.conclude (s.part.modRadio r (Radio.acknowledge tag.toNat))) :=
  congrArg Host.Outcome.next (s.receivePlain_taken r 32 tag (.acknowledgement tag.toNat) hears (by
    simp [frameOf, low, high]))

theorem Part.modRadio_congr {p : Part} {r : RcuId} {f f' : Radio → Radio} (h : f (p.radio r) = f' (p.radio r)) :
    p.modRadio r f = p.modRadio r f' := by
  unfold Part.modRadio
  rw [h]

theorem Part.modRadio_same {p : Part} {r : RcuId} {f : Radio → Radio} (h : f (p.radio r) = p.radio r) :
    p.modRadio r f = p := by
  unfold Part.modRadio
  rw [h, Part.setRadio_radio]

theorem Radio.acknowledge_order {x : Radio} {q : Pending} (slot : x.slot = some q) (phase : q.phase = .ackWait) :
    x.acknowledge q.tag =
      { x with slot := some { q with phase := .outcomeWait, limit := some q.order.outcomeLimit } } := by
  simp [Radio.acknowledge, slot, Pending.orderAcked, phase]

theorem Radio.acknowledge_cancel {x : Radio} {q : Pending} {c : Cancel} (slot : x.slot = some q)
    (retired : q.phase = .retired) (cancel : q.cancel = some c) (phase : c.phase = .ackWait) :
    x.acknowledge c.tag =
      { x with slot := some { q with cancel := some { c with phase := .doneWait, limit := 2000000 } } } := by
  simp [Radio.acknowledge, slot, Pending.orderAcked, retired, Pending.cancelAcked, cancel, phase, Config.cancelLimit,
    Config.second]

theorem Radio.acknowledge_stray {x : Radio} {tag : Nat} (stray : ∀ q : Pending, x.slot = some q →
    ¬ (q.phase = .ackWait ∧ q.tag = tag) ∧ ∀ c, q.cancel = some c → ¬ (c.phase = .ackWait ∧ c.tag = tag)) :
    x.acknowledge tag = x := by
  unfold Radio.acknowledge
  split
  · next q hq =>
    obtain ⟨order, cancel⟩ := stray q hq
    have noCancel : q.cancelAcked tag = none := by
      unfold Pending.cancelAcked
      split
      · next c hc => exact if_neg (cancel c hc)
      · rfl
    rw [show q.orderAcked tag = none from if_neg order, noCancel]
    rfl
  · rfl

/-- Settles O10: the acknowledgement acts on the slot as its tag finds it. -/
theorem acknowledgementStartsTheLimit : Obligations.AcknowledgementStartsTheLimit := by
  intro s r tag hears low high
  rw [State.acknowledgement_taken hears low high]
  refine ⟨fun q slot phase same => ?_, fun q c slot retired cancel phase same => ?_, fun stray => ?_⟩
  · refine congrArg (fun p => Host.Outcome.next (s.conclude p)) (Part.modRadio_congr ?_)
    exact same ▸ Radio.acknowledge_order slot phase
  · refine congrArg (fun p => Host.Outcome.next (s.conclude p)) (Part.modRadio_congr ?_)
    exact same ▸ Radio.acknowledge_cancel slot retired cancel phase
  · rw [Part.modRadio_same (Radio.acknowledge_stray stray)]

/-! ## Outcomes -/

theorem Order.answeredBy_iff (o : Order) (x : ModuleOutcome) : o.answeredBy x = true ↔
    (x = .done ∧ (o = .wake ∨ o = .doze ∨ o = .answer ∨ o = .reject ∨ o = .release)) ∨
    (x = .settled ∧ ∃ k, o = .measure k) ∨
    ((x = .notHeard ∨ ∃ c kind b, x = .heard c kind b) ∧ ∃ k, o = .listen k) ∨
    ((x = .rejectedBarred ∨ x = .rejectedCongested ∨ x = .rejectedSubscription ∨ x = .noCell) ∧
      (o = .attachAny ∨ ∃ k a, o = .attach k a)) ∨
    ((∃ report, x = .accepted report) ∧ ∃ k a, o = .attach k a) ∨
    ((∃ cell, x = .accepted (some cell)) ∧ o = .attachAny) ∨
    ((x = .alerting ∨ x = .answered ∨ x = .dialRejected) ∧ ∃ l, o = .dial l) ∨
    ((x = .delivered ∨ x = .notDelivered) ∧ ∃ n, o = .sendNote n) ∨
    ((x = .camped ∨ x = .noCell) ∧ ∃ c, o = .camp c) := by
  cases x with
  | accepted report => cases report <;> cases o <;> simp [Order.answeredBy]
  | _ => cases o <;> simp [Order.answeredBy]

theorem Part.outcomeArrives_taken (g : Settings) (p : Part) (r : RcuId) {q : Pending} {o : ModuleOutcome}
    (slot : (p.radio r).slot = some q) (live : q.phase ≠ .retired) (answers : q.order.answeredBy o = true)
    (order : o ≠ .cancelDone) : p.outcomeArrives g r o q.tag = p.takeOutcome g r q o := by
  have takes : q.takes q.tag o = true := by simpa [Pending.takes, answers] using live
  simp [Part.outcomeArrives, slot, order, takes]

theorem Part.outcomeArrives_stray (g : Settings) (p : Part) (r : RcuId) {q : Pending} {o : ModuleOutcome} {tag : Nat}
    (slot : (p.radio r).slot = some q) (order : o ≠ .cancelDone)
    (stray : q.tag ≠ tag ∨ q.phase = .retired ∨ q.order.answeredBy o = false) : p.outcomeArrives g r o tag = p := by
  have takes : q.takes tag o = false := by
    obtain h | h | h := stray <;> simp [Pending.takes, h]
  simp [Part.outcomeArrives, slot, order, takes]

theorem Part.prove_eq_of_unproved {p : Part} {r : RcuId} (h : (p.radio r).proving = false) : p.prove r = p := by
  simp [Part.prove, h]

theorem Part.prove_proved {p : Part} {r : RcuId} (h : (p.radio r).proving = true) :
    ((p.prove r).radio r).proving = false ∧ ((p.prove r).radio r).faultCount = 0 ∧
      ((p.radio r).faultCount ≠ 0 → (p.prove r).notices.radioChanged = true) := by
  unfold Part.prove
  simp only [h, if_true]
  split
  · next zero => exact ⟨by simp, by simp, fun h => absurd zero h⟩
  · exact ⟨by simp, by simp, fun _ => rfl⟩

@[simp] theorem Part.claims_prove (p : Part) (r : RcuId) : (p.prove r).claims = p.claims :=
  ((Unmoved.refl p).prove r).claims

/-- Settles O11: the slot decides whether an outcome is taken, and the order which outcomes answer it. -/
theorem outcomesAreTakenByTag : Obligations.OutcomesAreTakenByTag := by
  refine ⟨fun s r q o tag slot same live answers order => ?_, fun g p r o tag => ⟨fun empty => ?_, fun q slot =>
    ⟨fun order stray => p.outcomeArrives_stray g r slot order stray, fun order stray => ?_⟩⟩, fun p r => ?_,
    Order.answeredBy_iff⟩
  · subst same
    dsimp only
    rw [Part.outcomeArrives_taken _ _ _ slot live answers order]
    unfold Part.takeOutcome
    cases hi : q.issuer <;> simp
  · simp [Part.outcomeArrives, empty]
  · have other : q.cancel.any (·.tag == tag) = false := by
      cases hc : q.cancel with
      | none => rfl
      | some c => simpa using stray c hc
    simp [Part.outcomeArrives, slot, order, other]
  · have proved : ((p.prove r).radio r).proving = false := by
      cases h : (p.radio r).proving with
      | true => exact (Part.prove_proved h).1
      | false => rw [Part.prove_eq_of_unproved h, h]
    exact ⟨proved, fun h => (Part.prove_proved h).2, Part.prove_eq_of_unproved, p.table_prove r,
      p.radio_prove_ne (RcuId.other_ne r), fun k => p.call_prove r k, p.claims_prove r, p.condition_prove r,
      p.slot_prove r⟩

/-! ## Conditions -/

theorem Part.radio_applyOutcome_ne (p : Part) {r r' : RcuId} (h : r' ≠ r) (o : Order) (x : ModuleOutcome) :
    (p.applyOutcome r o x).radio r' = p.radio r' := by
  unfold Part.applyOutcome
  split
  case h_6 => rw [Part.leaveInCall, Part.radio_modRadio_ne _ h, Part.radio_endContinuous_ne _ h]
  case h_7 => rfl
  all_goals exact Part.radio_modRadio_ne p h _

theorem Part.radio_startAnswerTimer_ne (p : Part) {r r' : RcuId} (h : r' ≠ r) (g : Settings) (x : ModuleOutcome) :
    (p.startAnswerTimer g r x).radio r' = p.radio r' := by
  unfold Part.startAnswerTimer
  split
  · exact Part.radio_modRadio_ne p h _
  · rfl

/-- R67: an ALERTING that leaves the RCU IN_CALL starts the answer timer. -/
theorem Part.startAnswerTimer_alerting {p : Part} {r : RcuId} (inCall : (p.radio r).condition = .inCall) (g : Settings) :
    ((p.startAnswerTimer g r .alerting).radio r).answerTimer = some (g.answerTimeout * 1000000) := by
  simp [Part.startAnswerTimer, inCall, Config.second]

theorem Part.applyOutcome_same {p : Part} {r : RcuId} {o : Order} {x : ModuleOutcome}
    (h : (∃ k a, o = .attach k a) ∨ o = .attachAny ∨ o = .reject ∨ x = .dialRejected ∨ x = .noCell) :
    p.applyOutcome r o x = p := by
  obtain ⟨k, a, rfl⟩ | rfl | rfl | rfl | rfl := h
  · rfl
  · rfl
  · rfl
  · cases o <;> rfl
  · cases o <;> rfl

theorem Part.applyOutcome_release {p : Part} {r : RcuId} (inCall : (p.radio r).condition = .inCall) :
    ((p.applyOutcome r .release .done).radio r).condition = .awake ∧
      ((p.applyOutcome r .release .done).radio r).answerTimer = none := by
  simp [Part.applyOutcome, inCall, Part.leaveInCall]

/-- Settles O12, order by order. -/
theorem outcomesChangeTheCondition : Obligations.OutcomesChangeTheCondition := by
  intro g p r o x before after answers
  have named := (o.answeredBy_iff x).mp answers
  refine ⟨?_, ?_, ?_, ?_, ?_, ?_, ?_, Part.applyOutcome_same, ?_, ?_⟩
  · rintro rfl waking
    obtain rfl : x = .done := by simpa using named
    simp [after, Part.applyOutcome, show (p.radio r).condition = .waking from waking]
  · rintro rfl
    rfl
  · rintro ⟨l, rfl⟩ awake (rfl | rfl) <;>
      simp [after, Part.applyOutcome, show (p.radio r).condition = .awake from awake]
  · rintro rfl awake
    obtain rfl : x = .done := by simpa using named
    simp [after, Part.applyOutcome, show (p.radio r).condition = .awake from awake]
  · rintro ⟨c, rfl⟩ awake rfl
    simp [after, Part.applyOutcome, show (p.radio r).condition = .awake from awake]
  · rintro rfl inCall
    obtain rfl : x = .done := by simpa using named
    exact Part.applyOutcome_release inCall
  · rintro rfl awake
    obtain rfl : x = .done := by simpa using named
    simp [after, Part.applyOutcome, show (p.radio r).condition = .awake from awake]
  · rw [Part.radio_startAnswerTimer_ne _ (RcuId.other_ne r), Part.radio_applyOutcome_ne _ (RcuId.other_ne r)]
  · rintro rfl inCall
    exact Part.startAnswerTimer_alerting inCall g

/-! ## Cancels -/

theorem Radio.abandon_live {x : Radio} {q : Pending} (slot : x.slot = some q) (holder : q.issuer = .holder)
    (live : q.phase ≠ .retired) : x.abandon = { x with
      slot := some { q with
        phase := .retired, limit := none, cancel := some { tag := x.tagCounter, phase := .ackWait, limit := 500000 } },
      tagCounter := if x.tagCounter < 15 then x.tagCounter + 1 else 1,
      txQueue := x.txQueue ++ [cancelFrame q.tag x.tagCounter], answerTimer := none } := by
  simp [Radio.abandon, Radio.retire, slot, holder, live, nextTag, Config.ackLimit]

theorem Radio.abandon_other {x : Radio} (other : ∀ q, x.slot = some q → q.issuer = .rcu ∨ q.phase = .retired) :
    x.abandon = { x with answerTimer := none } := by
  unfold Radio.abandon Radio.retire
  split
  · next q hq =>
    rw [if_neg]
    rintro ⟨holder, live⟩
    obtain rcu | retired := other q hq
    · rw [holder] at rcu; cases rcu
    · exact live retired
  · rfl

/-- Settles O13: a cancel is R60's by cases on the slot, and CANCEL_DONE finds its tag. -/
theorem cancelsRetireTheOrder : Obligations.CancelsRetireTheOrder := by
  refine ⟨fun x => ⟨fun empty => ?_, fun q slot => ⟨fun holder live => Radio.abandon_live slot holder live,
    fun other => ?_⟩⟩, fun s r tag q c hears slot cancel same low high => ?_⟩
  · exact Radio.abandon_other fun q hq => by rw [empty] at hq; cases hq
  · exact Radio.abandon_other fun q' hq' => by rw [slot] at hq'; cases hq'; exact other
  · have arrives := s.receivePlain_outcome r 80 tag .cancelDone hears low high (by decide) (by decide) rfl
    refine congrArg Host.Outcome.next (arrives.trans ?_)
    simp [Part.outcomeArrives, slot, cancel, same, Part.takeCancelDone]

end Sys2Proof.Machine

/-! # Module links: gaps, bad frames, outcomes and notices -/

namespace Sys2Proof.Machine

set_option Elab.async false

/-! ## Parts of frames -/

/-- The bytes so far do not complete a frame, and their count, if it is there, is one the format admits. -/
def isFramePart (bytes : List Byte) : Prop := ∀ c, bytes[2]? = some c → c.toNat ≤ 24 ∧ bytes.length < c.toNat + 4

theorem isFramePart_short {bytes : List Byte} (short : bytes.length < 3) : isFramePart bytes := by
  intro c hc
  rw [List.getElem?_eq_none (by omega)] at hc
  cases hc

theorem isFramePart_left {front back : List Byte} (h : isFramePart (front ++ back)) : isFramePart front := by
  intro c hc
  obtain ⟨inRange, _⟩ := List.getElem?_eq_some_iff.mp hc
  obtain ⟨low, short⟩ := h c (by rw [List.getElem?_append_left inRange, hc])
  rw [List.length_append] at short
  exact ⟨low, by omega⟩

/-- The receiver keeps what it has got of a frame. -/
theorem State.receive_framePart (r : RcuId) (rest done : List Byte) (s : State) (running : s.isHeld = false)
    (receiver : (s.part.radio r).receiver = LinkReceiver.ofBytes done) (part : isFramePart (done ++ rest)) :
    s.receive r rest = s.withReceiver r (LinkReceiver.ofBytes (done ++ rest)) := by
  induction rest generalizing done s with
  | nil => rw [List.append_nil]; exact (s.withReceiver_self r _ receiver).symm
  | cons b rest ih =>
    rw [List.append_cons] at part ⊢
    have next : (LinkReceiver.ofBytes done).byte b = (LinkReceiver.ofBytes (done ++ [b]), none) :=
      LinkReceiver.byte_ofBytes done b fun c hc => by
        obtain ⟨low, short⟩ := isFramePart_left part c hc
        exact ⟨low, by omega⟩
    have taken := s.linkByte_silent r b _ running (receiver ▸ next)
    have tail := ih (done ++ [b]) _ (by rw [State.isHeld_withReceiver, running]) (s.receiver_withReceiver r _) part
    rw [State.withReceiver_withReceiver] at tail
    exact (congrArg (fun t : State => t.receive r rest) taken).trans tail

/-- A receiver that discards takes no byte. -/
theorem State.receive_discarding {s : State} (running : s.isHeld = false) {r : RcuId}
    (receiver : (s.part.radio r).receiver = .discarding) (bytes : List Byte) : s.receive r bytes = s := by
  induction bytes with
  | nil => rfl
  | cons b rest ih =>
    have taken := s.linkByte_silent r b .discarding running (by rw [receiver]; rfl)
    rw [s.withReceiver_self r _ receiver] at taken
    exact (congrArg (fun t : State => t.receive r rest) taken).trans ih

/-- R187: a count above 24 sends the receiver into discarding, whatever follows. -/
theorem State.receive_malformed {s : State} {r : RcuId} (listens : s.listens r) {kind tag count : Byte}
    (above : 24 < count.toNat) (rest : List Byte) :
    s.receive r (kind :: tag :: count :: rest) = s.withReceiver r .discarding := by
  obtain ⟨running, receiver⟩ := listens
  have head := s.receive_framePart r [kind, tag] [] running receiver (isFramePart_short (by simp))
  have running' : (s.withReceiver r (.partly [kind, tag])).isHeld = false := by rw [State.isHeld_withReceiver, running]
  have third := (s.withReceiver r (.partly [kind, tag])).linkByte_silent r count .discarding running' (by
    rw [State.receiver_withReceiver]
    simp [LinkReceiver.byte, above])
  rw [State.withReceiver_withReceiver] at third
  have tail := State.receive_discarding (by rw [State.isHeld_withReceiver, running]) (s.receiver_withReceiver r _) rest
  have split : s.receive r (kind :: tag :: count :: rest) =
      ((s.receive r [kind, tag]).linkByte r count).receive r rest := rfl
  rw [split, head]
  exact (congrArg (fun t : State => t.receive r rest) third).trans tail

/-- R187: what a gap leaves when the bytes before it have only moved the receiver. -/
theorem exec_linkGap {s : State} {r : RcuId} {x : LinkReceiver} {before : List Byte}
    (moved : s.receive r before = s.withReceiver r x) :
    exec (.linkGap r before) s = .next (s.withReceiver r .empty) :=
  congrArg Host.Outcome.next
    ((congrArg (fun t : State => t.withReceiver r .empty) moved).trans (s.withReceiver_withReceiver r x .empty))

/-! ## Frames that fail a test -/

theorem parseFrame_frame (kind tag check : Byte) {params : List Byte} (short : params.length ≤ 24) :
    parseFrame (kind :: tag :: toByte params.length :: params ++ [check]) =
      if check = checkByte (kind :: tag :: toByte params.length :: params) then
        frameOf kind.toNat tag.toNat params else none := by
  have count := toByte_toNat params.length (by omega)
  simp [parseFrame, count]

theorem Part.frameArrives_bad (g : Settings) {p : Part} {r : RcuId} {bytes : List Byte}
    (bad : parseFrame bytes = none ∨ (p.radio r).supplyOn = false) : p.frameArrives g r bytes = p := by
  unfold Part.frameArrives
  split
  · next f hf =>
    obtain none | off := bad
    · rw [none] at hf; cases hf
    · rw [off]; rfl
  · rfl

/-- Settles O14: gaps and bad frames move the receiver, and nothing else. -/
theorem badFramesReachNoOne : Obligations.BadFramesReachNoOne := by
  refine ⟨fun s r kind tag count rest listens => ?_, fun s r done rest running => ?_,
    fun s r kind tag params check listens short => ?_⟩
  · have back := s.withReceiver_self r .empty listens.2
    have partly := fun bytes part => s.receive_framePart r bytes [] listens.1 listens.2 part
    refine ⟨?_, fun above => ⟨?_, ?_⟩, ?_, ?_⟩
    · rw [exec_linkGap (partly [] (isFramePart_short (by simp))), back]
    · exact congrArg Host.Outcome.next (State.receive_malformed listens above rest)
    · rw [exec_linkGap (State.receive_malformed listens above rest), back]
    · rw [exec_linkGap (partly [kind] (isFramePart_short (by simp))), back]
    · rw [exec_linkGap (partly [kind, tag] (isFramePart_short (by simp))), back]
  · refine ⟨fun receiver => ?_, fun receiver part => ?_⟩
    · exact exec_linkGap (x := .discarding)
        ((State.receive_discarding running receiver rest).trans (s.withReceiver_self r _ receiver).symm)
    · have holds : (s.part.radio r).receiver = LinkReceiver.ofBytes done := by
        rw [receiver]
        cases done <;> rfl
      refine exec_linkGap (s.receive_framePart r rest done running holds ?_)
      obtain short | ⟨kind, tag, count, more, bytes, low, length⟩ := part
      · exact isFramePart_short short
      · rw [bytes]
        intro c hc
        cases hc
        exact ⟨low, by simp only [List.length_cons]; omega⟩
  · intro bytes bad
    have count := toByte_toNat params.length (by omega)
    have frame := s.receive_frame r bytes (toByte params.length) listens rfl (by omega) (by
      simp only [bytes, List.length_append, List.length_cons, List.length_nil]
      omega)
    refine congrArg Host.Outcome.next (frame.trans ?_)
    rw [State.event_running _ _ listens.1, Part.frameArrives_bad]
    rw [parseFrame_frame kind tag check short]
    obtain check | frame | off := bad
    · exact .inl (if_neg check)
    · exact .inl (by rw [frame]; split <;> rfl)
    · exact .inr off

/-! ## Outcomes with parameters -/

theorem accessKindOf_of_inRange {code : Byte} (h : codeInRange code = true) :
    ∃ kind, accessKindOf code.toNat = some kind := by
  have low : code.toNat ≤ 2 := by simpa [codeInRange] using h
  generalize code.toNat = n at low
  interval_cases n <;> exact ⟨_, rfl⟩

theorem barringOf_of_inRange {code : Byte} (h : codeInRange code = true) :
    ∃ barring, barringOf code.toNat = some barring := by
  have low : code.toNat ≤ 2 := by simpa [codeInRange] using h
  generalize code.toNat = n at low
  interval_cases n <;> exact ⟨_, rfl⟩

theorem carrierOf_bytes2 {carrier : BitVec 16} (h : carrierInRange carrier = true) :
    carrierOf (num2 (toByte (carrier.toNat / 256)) (toByte carrier.toNat)) = some carrier.toNat := by
  have range : 1 ≤ carrier.toNat ∧ carrier.toNat ≤ 999 := by simpa [carrierInRange] using h
  rw [num2_bytes2 _ carrier.isLt, carrierOf, if_neg (by omega)]

theorem heardOf_heardParams {carrier : BitVec 16} {k b : Byte} {kind : AccessKind} {barring : Barring}
    (range : carrierInRange carrier = true) (hk : accessKindOf k.toNat = some kind)
    (hb : barringOf b.toNat = some barring) :
    heardOf (heardParams carrier k b) = some (.heard carrier.toNat kind barring) := by
  simp [heardOf, heardParams, bytes2, carrierOf_bytes2 range, hk, hb]

theorem acceptedOf_acceptedParams {c : CellReport} {kind : AccessKind} {barring : Barring}
    (band : c.band.toNat ≤ 5) (channel : c.channel.toNat ≤ 4095) (carrier : carrierInRange c.carrier = true)
    (hk : accessKindOf c.kind.toNat = some kind) (hb : barringOf c.barring.toNat = some barring) :
    acceptedOf (acceptedParams (some c)) = some (.accepted (some
      ({ key := { band := c.band.toNat, channel := c.channel.toNat }, carrier := c.carrier.toNat }, kind, barring))) := by
  have key : keyOf c.band.toNat (num2 (toByte (c.channel.toNat / 256)) (toByte c.channel.toNat)) =
      some { band := c.band.toNat, channel := c.channel.toNat } := by
    rw [num2_bytes2 _ c.channel.isLt, keyOf, if_neg (by omega)]
  simp [acceptedOf, acceptedParams, bytes2, key, carrierOf_bytes2 carrier, hk, hb]

/-- An outcome frame, at an RCU that hears. -/
theorem State.receive_outcome {s : State} {r : RcuId} {kind tag : Byte} {params : List Byte} {o : ModuleOutcome}
    (hears : s.hears r) (low : 1 ≤ tag.toNat) (high : tag.toNat ≤ 15) (short : params.length ≤ 24)
    (code : kind.toNat ≠ 32 ∧ kind.toNat < 97) (outcome : outcomeOf kind.toNat params = some o) :
    s.receive r (linkFrame kind tag params) = s.conclude (s.part.outcomeArrives s.settings r o tag.toNat) :=
  s.receive_taken r kind tag params (.outcome o tag.toNat) hears short (by
    simp [frameOf, code.1, code.2, low, high, outcome])

/-- Settles O15: the bytes of each frame are read back as its outcome. -/
theorem outcomeFramesArrive : Obligations.OutcomeFramesArrive := by
  intro s r tag hears low high arrives
  have plain : ∀ (u : State) (kind : Byte) (o : ModuleOutcome), u.hears r → u.settings = s.settings →
      kind.toNat ≠ 32 ∧ kind.toNat < 97 → outcomeOf kind.toNat [] = some o →
      Host.Outcome.next (u.receivePlain r kind tag) = arrives o u := by
    intro u kind o hears settings code outcome
    simp only [arrives, ← settings]
    exact congrArg Host.Outcome.next (State.receive_outcome hears low high (by simp) code outcome)
  refine ⟨fun v => ?_, ?_, ?_, ?_, ?_, ?_, ?_, ?_, ?_, ?_, ?_, ?_, ?_, ?_, ?_, fun c inRange => ?_,
    fun carrier k b hc hk hb => ?_⟩
  case refine_16 =>
    simp only [CellReport.inRange, Bool.and_eq_true, decide_eq_true_eq] at inRange
    obtain ⟨⟨⟨⟨band, channel⟩, carrier⟩, kindCode⟩, barringCode⟩ := inRange
    obtain ⟨kind, hk⟩ := accessKindOf_of_inRange kindCode
    obtain ⟨barring, hb⟩ := barringOf_of_inRange barringCode
    exact ⟨kind, barring, hk, hb, congrArg Host.Outcome.next (State.receive_outcome hears low high
      (by simp [acceptedParams, bytes2]) (by decide) (acceptedOf_acceptedParams band channel carrier hk hb))⟩
  case refine_17 =>
    obtain ⟨kind, hk⟩ := accessKindOf_of_inRange hk
    obtain ⟨barring, hb⟩ := barringOf_of_inRange hb
    exact ⟨kind, barring, hk, hb, congrArg Host.Outcome.next (State.receive_outcome hears low high
      (by simp [heardParams, bytes2]) (by decide) (heardOf_heardParams hc hk hb))⟩
  case refine_1 =>
    have stays : (s.modPart (Part.setLine (.rcu r) v)).hears r := by cases r <;> exact hears
    exact plain _ 65 _ stays rfl (by decide) rfl
  all_goals exact plain s _ _ hears rfl (by decide) rfl

/-! ## Notices -/

theorem State.receivePlain_notice {s : State} {r : RcuId} {kind : Byte} {n : Notice} (hears : s.hears r)
    (code : 97 ≤ kind.toNat) (notice : noticeOf kind.toNat = some n) :
    s.receivePlain r kind 0 = s.conclude (s.part.takeNotice s.settings n r) := by
  refine s.receivePlain_taken r kind 0 (.notice n) hears ?_
  have order : ¬ kind.toNat = 32 ∧ ¬ kind.toNat < 97 := by omega
  simp [frameOf, order, notice]

/-- A notice in a condition in which it is not taken. -/
theorem State.notice_discarded {s : State} {r : RcuId} {kind : Byte} {n : Notice} (hears : s.hears r)
    (code : 97 ≤ kind.toNat) (notice : noticeOf kind.toNat = some n)
    (untaken : s.part.takeNotice s.settings n r = s.part) : s.receivePlain r kind 0 = s.conclude s.part :=
  (State.receivePlain_notice hears code notice).trans (congrArg s.conclude untaken)

theorem Part.unbeginItem_idle {p : Part} {r : RcuId} (h : (p.radio r).begunNow = false) : p.unbeginItem r = p :=
  Part.modRadio_same (by simp [Radio.unbegin, h])

theorem Part.takeReady_fault (g : Settings) {p : Part} {r : RcuId} (powered : (p.radio r).supplyOn = true)
    (notBooting : (p.radio r).condition ≠ .booting) : p.takeReady g r = p.readyFaults g r := by
  unfold Part.takeReady
  unfold Radio.supplyOn at powered
  cases hc : (p.radio r).condition <;> simp_all [Condition.powered]

/-- Settles O16: READY ends the boot or faults, and the other notices ask for their condition. -/
theorem readyAndMisplacedNotices : Obligations.ReadyAndMisplacedNotices := by
  refine ⟨fun s r hears => ⟨fun booting => ?_, fun notBooting => ?_⟩,
    fun p r => ⟨Part.unbeginItem_idle, fun begun => ?_⟩, fun s r hears => ⟨fun out => ?_, fun out => ?_, fun out => ?_⟩⟩
  · refine congrArg Host.Outcome.next ((State.receivePlain_notice hears (by decide) rfl).trans ?_)
    simp [Part.takeNotice, Part.takeReady, booting]
  · refine congrArg Host.Outcome.next ((State.receivePlain_notice hears (by decide) rfl).trans ?_)
    rw [Part.takeNotice, Part.takeReady_fault _ hears.2 notBooting]
    rfl
  · refine Part.modRadio_congr ?_
    rw [Radio.unbegin, if_pos begun]
    rfl
  · have lost := State.notice_discarded hears (kind := 98) (n := .linkLost) (by decide) rfl (if_neg out)
    have far := State.notice_discarded hears (kind := 99) (n := .farRelease) (by decide) rfl (if_neg out)
    exact ⟨congrArg Host.Outcome.next lost, congrArg Host.Outcome.next far⟩
  · have untaken : ¬ ((s.part.radio r).condition = .inCall ∧ (s.part.radio r).answerTimer.isSome = true) := by
      rintro ⟨inCall, runs⟩
      obtain out | stopped := out
      · exact out inCall
      · simp [stopped] at runs
    exact congrArg Host.Outcome.next
      (State.notice_discarded hears (kind := 100) (n := .answered) (by decide) rfl (if_neg untaken))
  · have paged := State.notice_discarded hears (kind := 101) (n := .paged) (by decide) rfl (if_neg out)
    have lost := State.notice_discarded hears (kind := 102) (n := .cellLost) (by decide) rfl (if_neg out)
    exact ⟨congrArg Host.Outcome.next paged, congrArg Host.Outcome.next lost⟩

end Sys2Proof.Machine

/-! # Module faults and recovery -/

namespace Sys2Proof.Machine

set_option Elab.async false

/-! ## What a fault leaves of the RCU -/

/-- The part after R76, step 1, before the holder is told. -/
def Part.downed (p : Part) (r : RcuId) : Part := (p.supplyOff r).modRadio r Radio.faulted

theorem Part.moduleFault_eq (g : Settings) (p : Part) (r : RcuId) :
    p.moduleFault g r = ((p.downed r).tellRevoked g (p.radio r).holder r).raiseRadioChanged := rfl

/-- The RCU without supply (R68). -/
def Radio.unpowered (x : Radio) : Radio :=
  { x with slot := none, answerTimer := none, readyTimer := none, dozeTimer := none, wakeDue := false,
           receiver := .empty, gate := GateCounter.cleared, measurement := Measurement.cleared }

theorem Radio.broken_faulted (x : Radio) : x.faulted.broken = true := by
  unfold Radio.faulted
  dsimp only
  split <;> rfl

theorem Radio.faulted_of_few {x : Radio} (few : x.faultCount < 2) :
    x.faulted = { x with faultCount := min 3 (x.faultCount + 1), condition := .faulted, proving := false, holder := none,
                         recoveryTimer := some 60000000 } := by
  have below : ¬ min 3 (x.faultCount + 1) = 3 := by omega
  simp only [Radio.faulted, satInc_eq_min, below, if_false]
  rfl

theorem Radio.faulted_of_many {x : Radio} (many : 2 ≤ x.faultCount) :
    x.faulted = { x with faultCount := min 3 (x.faultCount + 1), condition := .disabled, proving := false,
                         holder := none } := by
  have third : min 3 (x.faultCount + 1) = 3 := by omega
  simp only [Radio.faulted, satInc_eq_min, third, if_true]

theorem Part.radio_downed (p : Part) (r : RcuId) : (p.downed r).radio r = (p.radio r).unpowered.faulted := by
  simp [Part.downed, Part.supplyOff, Part.abandonMeasurement, Radio.unpowered]

@[simp] theorem Part.radio_downed_other (p : Part) (r : RcuId) : (p.downed r).radio r.other = p.radio r.other := by
  unfold Part.downed Part.supplyOff
  rw [Part.radio_modRadio_other, Part.radio_modRadio_other, Part.radio_abandonMeasurement_ne _ (RcuId.other_ne r)]

@[simp] theorem Part.call_downed (p : Part) (r : RcuId) (k : RecId) : (p.downed r).call k = p.call k := by
  simp [Part.downed]

@[simp] theorem Part.claims_downed (p : Part) (r : RcuId) : (p.downed r).claims = p.claims := by simp [Part.downed]

@[simp] theorem Part.table_downed (p : Part) (r : RcuId) : (p.downed r).table = p.table := by simp [Part.downed]

@[simp] theorem Part.stack_downed (p : Part) (r : RcuId) : (p.downed r).stack = p.stack := by simp [Part.downed]

@[simp] theorem Part.window_downed (p : Part) (r : RcuId) : (p.downed r).window = p.window := by simp [Part.downed]

@[simp] theorem Part.survey_downed (p : Part) (r : RcuId) : (p.downed r).survey = p.survey := by simp [Part.downed]

theorem Part.holder_downed (p : Part) (r : RcuId) : ((p.downed r).radio r).holder = none := by
  rw [Part.radio_downed, Radio.holder_faulted]

theorem Part.broken_downed (p : Part) (r : RcuId) : ((p.downed r).radio r).broken = true := by
  rw [Part.radio_downed, Radio.broken_faulted]

/-- R53: the sweep goes, and nothing else of the RCU. -/
theorem Part.radio_downed_removeSweep (p : Part) (r : RcuId) :
    ((p.downed r).removeSweep r).radio r = { (p.downed r).radio r with sweep := none } := by
  have measured : (p.radio r).unpowered.faulted.gate = GateCounter.cleared ∧
      (p.radio r).unpowered.faulted.measurement = Measurement.cleared := by
    unfold Radio.faulted
    dsimp only
    split <;> exact ⟨rfl, rfl⟩
  unfold Part.removeSweep
  split
  · simp only [Part.abandonMeasurement, Part.radio_modRadio_self, Part.radio_withdrawConversion, Part.radio_downed,
      ← measured.1, ← measured.2]
  · next none =>
    have noSweep : ((p.downed r).radio r).sweep = Option.none := by simpa using none
    rw [← noSweep]

theorem Part.radio_removeSweep_other (p : Part) (r : RcuId) : (p.removeSweep r).radio r.other = p.radio r.other :=
  p.radio_removeSweep_ne (RcuId.other_ne r)

/-- Whoever held it, the RCU is left as step 1 leaves it, but for its sweep. -/
theorem Part.radio_moduleFault (g : Settings) (p : Part) (r : RcuId) :
    ∃ sweep, (p.moduleFault g r).radio r = { (p.radio r).unpowered.faulted with sweep := sweep } := by
  have revoked : ∀ k, (((p.downed r).removeSweep r).recordRevoked g k).radio r =
      { (p.radio r).unpowered.faulted with sweep := none } := by
    intro k
    have radio := p.radio_downed_removeSweep r
    rw [Part.radio_recordRevoked_broken, radio, Part.radio_downed]
    · rw [radio]; exact p.broken_downed r
    · rw [radio]; exact p.holder_downed r
  have kept : ∃ sweep, (p.downed r).radio r = { (p.radio r).unpowered.faulted with sweep := sweep } :=
    ⟨_, p.radio_downed r⟩
  rw [Part.moduleFault_eq, Part.radio_raiseRadioChanged]
  unfold Part.tellRevoked
  split
  · exact ⟨_, revoked .sideA⟩
  · exact ⟨_, revoked .sideB⟩
  · exact ⟨_, revoked .test⟩
  · refine ⟨none, ?_⟩
    rw [Part.surveyLosesRcu, Part.radio_surveyIdle, Part.radio_downed_removeSweep, Part.radio_downed]
  · rw [Part.radio_withWindow]; exact kept
  · exact kept

/-! ## What a record loses with its RCU -/

theorem Part.closeLent_eq (p : Part) (k : RecId) : p.closeLent k = p ∨ p.closeLent k = { p with window := none } := by
  unfold Part.closeLent
  split
  · split
    · exact .inr rfl
    · exact .inl rfl
  · exact .inl rfl

@[simp] theorem Part.call_closeLent (p : Part) (k k' : RecId) : (p.closeLent k).call k' = p.call k' := by
  obtain same | same := p.closeLent_eq k
  · rw [same]
  · rw [same, Part.call_withWindow]

@[simp] theorem Part.call_raiseRadioChanged (p : Part) (k : RecId) : p.raiseRadioChanged.call k = p.call k := by
  cases k <;> rfl

@[simp] theorem Part.voice_emptyPlan (p : Part) (k : RecId) (d : Side) : (p.emptyPlan k).voice d = p.voice d := by
  rw [← Part.voice_modCall p k (fun c => { c with plan := [] }) d]
  cases d <;> rfl

theorem Part.window_closeLent_lent {p : Part} {k : RecId} {w : Window} {d : Side} (window : p.window = some w)
    (side : k.side = some d) (lent : w.state = .lent d) : (p.closeLent k).window = none := by
  simp [Part.closeLent, window, side, Window.lentTo, lent]

theorem Part.window_closeLent_other {p : Part} {k : RecId}
    (other : ∀ w d, p.window = some w → k.side = some d → w.state ≠ .lent d) : (p.closeLent k).window = p.window := by
  unfold Part.closeLent
  split
  · next w d hw hd =>
    have notLent : w.lentTo d = false := by simpa [Window.lentTo] using other w d hw hd
    simp [notLent]
  · rfl

/-- What a revocation leaves of the record `k`, where `f` is the change of the record itself. The voice paths may
change too. -/
theorem Part.revocation_facts {p u v : Part} {r : RcuId} {k : RecId} (f : CallRec → CallRec)
    (start : u = ((p.downed r).removeSweep r).closeLent k) (voices : ∃ a b, v = { u with voiceA := a, voiceB := b }) :
    let t := (v.emptyPlan k).modCall k f
    t.call k = f { p.call k with plan := [] } ∧ (∀ k', k' ≠ k → t.call k' = p.call k') ∧ t.claims = p.claims ∧
      (t.radio r).sweep = none ∧ (t.radio r).holder = none ∧ t.radio r.other = p.radio r.other ∧ t.stack = p.stack ∧
      (∀ w d, p.window = some w → k.side = some d → w.state = .lent d → t.window = none) ∧
      ((∀ w d, p.window = some w → k.side = some d → w.state ≠ .lent d) → t.window = p.window) ∧
      (∀ i e, t.entryAt i = some e → p.entryAt i = some e) ∧
      (∀ i e, p.entryAt i = some e → e.age ≠ 15 → t.entryAt i = some e) := by
  have closed : u.call = p.call ∧ u.claims = p.claims ∧ u.radio r = ((p.downed r).removeSweep r).radio r ∧
      u.radio r.other = p.radio r.other ∧ u.stack = p.stack ∧ u.table = p.table := by
    have same := ((p.downed r).removeSweep r).closeLent_eq k
    rw [← start] at same
    refine ⟨funext fun k' => by rw [start]; simp, ?_, by simp [start], by simp [start, Part.radio_removeSweep_other],
      ?_, ?_⟩
    all_goals rcases same with same | same <;> simp [same]
  obtain ⟨call, claims, radio, other, stack, table⟩ := closed
  have voice : v.call = u.call ∧ v.radio = u.radio ∧ v.claims = u.claims ∧ v.stack = u.stack ∧ v.table = u.table ∧
      v.window = u.window := by
    obtain ⟨a, b, rfl⟩ := voices
    exact ⟨funext fun k => by cases k <;> rfl, funext fun r => by cases r <;> rfl, rfl, rfl, rfl, rfl⟩
  obtain ⟨vcall, vradio, vclaims, vstack, vtable, vwindow⟩ := voice
  have entries : ∀ i, ((v.emptyPlan k).modCall k f).entryAt i =
      (v.modCall k fun c => { c with plan := [] }).prune.entryAt i := fun i =>
    Part.entryAt_congr (by simp [Part.emptyPlan]) i
  have before : ∀ i, (v.modCall k fun c => { c with plan := [] }).entryAt i = p.entryAt i := fun i =>
    Part.entryAt_congr (by simp [vtable, table]) i
  refine ⟨?_, fun k' ne => ?_, ?_, ?_, ?_, ?_, ?_, fun w d window side lent => ?_, fun none => ?_, fun i e he => ?_,
    fun i e he young => ?_⟩
  · simp [Part.emptyPlan, vcall, call]
  · rw [Part.call_modCall_ne _ _ _ _ ne, Part.emptyPlan, Part.call_prune, Part.call_modCall_ne _ _ _ _ ne, vcall, call]
  · simp [Part.emptyPlan, vclaims, claims]
  · simp [vradio, radio]
  · simp [vradio, radio, Part.radio_downed_removeSweep, Part.holder_downed]
  · simp [vradio, other]
  · rw [Part.stack_modCall, Part.emptyPlan]
    exact (Part.stack_modCall v k _).trans (vstack.trans stack)
  · have gone := Part.window_closeLent_lent (p := (p.downed r).removeSweep r) (k := k) (by simpa using window) side lent
    rw [Part.window_modCall]
    exact (Part.window_modCall v k _).trans (vwindow.trans (start ▸ gone))
  · have kept := Part.window_closeLent_other (p := (p.downed r).removeSweep r) (k := k) (by simpa using none)
    rw [Part.window_modCall]
    exact (Part.window_modCall v k _).trans (vwindow.trans (start ▸ kept.trans (by simp)))
  · rw [entries] at he
    exact before i ▸ Part.entryAt_of_prune _ i e he
  · rw [entries]
    exact Part.entryAt_prune_young _ i e (before i ▸ he) young

theorem Part.moduleFault_record (g : Settings) {p : Part} {r : RcuId} {k : RecId}
    (held : (p.radio r).holder = some k.holder) :
    p.moduleFault g r = (((p.downed r).removeSweep r).recordRevoked g k).raiseRadioChanged := by
  rw [Part.moduleFault_eq, held]
  cases k <;> rfl

/-! ## The claim of a requeue -/

theorem Part.granted_record (g : Settings) (p : Part) (k : RecId) (r : RcuId) :
    p.granted g k.holder r = p.seek g k := by cases k <;> rfl

theorem Part.lastCause_seek (g : Settings) (p : Part) (k : RecId) :
    ((p.seek g k).call k).lastCause = (p.call k).lastCause := by
  unfold Part.seek
  split <;> simp [Part.buildRegainPlan]

theorem Part.call_losesToPreemption_side (g : Settings) (p : Part) (old : Holder) (r : RcuId) (d : Side) :
    (p.losesToPreemption g old r).call d.record = p.call d.record := by
  have ne : d.record ≠ .test := by cases d <;> decide
  cases old
  case survey => simp [Part.losesToPreemption, Part.surveyLosesRcu]
  case test =>
    have idle : ((p.removeSweep r).recordIdle .test).call d.record = p.call d.record := by
      rw [Part.recordIdle, Part.call_modCall_ne _ _ _ _ ne, Part.emptyPlan, Part.call_prune,
        Part.call_modCall_ne _ _ _ _ ne, Part.call_removeSweep]
    unfold Part.losesToPreemption Part.testPreempted
    dsimp only
    split
    · rw [Part.call_modCall_ne _ _ _ _ ne, ← idle]
      cases d <;> rfl
    · exact idle
  case window => exact Part.call_withWindow _ _ _
  all_goals rfl

/-- The claim of a record does not change its last cause. -/
theorem Part.lastCause_claim (g : Settings) (p : Part) (k : RecId) (requeued : Bool) :
    ((p.claim g { claimant := k.holder, requeued := requeued }).call k).lastCause = (p.call k).lastCause := by
  unfold Part.claim
  split
  · rfl
  · split
    · simp [Part.grant, Part.granted_record, Part.lastCause_seek]
    · split
      · next r hr =>
        obtain ⟨d, rfl⟩ : ∃ d : Side, k = d.record := by
          cases k
          · exact ⟨.a, rfl⟩
          · exact ⟨.b, rfl⟩
          · cases hr
        unfold Part.preempt
        dsimp only
        split <;> simp [Part.granted_record, Part.lastCause_seek, Part.call_losesToPreemption_side]
      · cases k <;> rfl

/-- R122: a requeue that is undone leaves the record IDLE, without an RCU and out of the queue. -/
theorem Part.requeueUndone_facts (g : Settings) {u : Part} {r : RcuId} {k : RecId}
    (broken : (u.radio r).broken = true) (unheld : (u.radio r).holder = none) :
    let q := u.requeueUndone g k
    (q.call k).state = .idle ∧ (q.call k).lastCause = .moduleFault ∧ q.rcuOf k.holder = none ∧
      q.waits k.holder = false := by
  generalize hasked : (u.modCall k fun c => { c with lastCause := .moduleFault }).requeue g k = asked
  have cause : (asked.call k).lastCause = .moduleFault := by
    rw [← hasked, Part.requeue, Part.lastCause_claim]
    simp
  have still : (asked.radio r).holder = none := by
    rw [← hasked, Part.requeue, Part.radio_claim_broken _ (by simpa using broken) (by simpa using unheld)]
    simpa using unheld
  have queue : ∀ v : Part, v.claims = asked.claims.filter (fun w => w.claimant != k.holder) →
      v.waits k.holder = false := by
    intro v hv
    simp [Part.waits, hv]
  unfold Part.requeueUndone
  simp only [hasked]
  split
  · next r' hr' =>
    have held := Part.rcuOf_holder _ hr'
    rw [Part.radio_leaveQueue] at held
    have other : r' ≠ r := by
      rintro rfl
      rw [still] at held
      cases held
    refine ⟨by simp [Part.recordIdle, CallRec.toIdle], ?_, ?_, ?_⟩
    · simpa [Part.recordIdle, CallRec.toIdle, Part.emptyPlan] using cause
    · rw [Part.rcuOf_eq_none]
      intro r''
      rw [Part.radio_recordIdle]
      obtain rfl | rfl := RcuId.eq_or_other r' r''
      · simp [Part.releaseRcu]
      · have same : r = r'.other := (RcuId.eq_or_other r' r).resolve_left (Ne.symm other)
        rw [Part.radio_releaseRcu_ne _ (RcuId.other_ne r'), Part.radio_leaveQueue, ← same, still]
        exact nofun
    · exact queue _ (by simp [Part.recordIdle, Part.emptyPlan, Part.leaveQueue])
  · next free =>
    refine ⟨by simp [Part.recordIdle, CallRec.toIdle], ?_, ?_, ?_⟩
    · simpa [Part.recordIdle, CallRec.toIdle, Part.emptyPlan] using cause
    · rw [Part.rcuOf_eq_none]
      intro r''
      rw [Part.radio_recordIdle]
      exact (Part.rcuOf_eq_none _ _).mp free r''
    · exact queue _ (by simp [Part.recordIdle, Part.emptyPlan, Part.leaveQueue])

/-! ## The expiries -/

theorem State.eventIf_taken {s : State} (running : s.isHeld = false) {ok : Part → Bool} (f : Settings → Part → Part)
    (runs : ok s.part = true) : s.eventIf ok f = s.conclude (f s.settings s.part) := by
  rw [State.eventIf, if_pos runs, State.event_running _ _ running]

theorem State.eventIf_stopped {s : State} {ok : Part → Bool} (f : Settings → Part → Part)
    (stopped : ok s.part = false) : s.eventIf ok f = s := by
  rw [State.eventIf, stopped]
  rfl

/-- Settles O17: the RCU goes down at once, and then its holder is told. -/
theorem moduleFaultsTakeTheRadioDown : Obligations.ModuleFaultsTakeTheRadioDown := by
  refine ⟨fun g p r => ?_, fun g p r => ⟨fun held => ?_, fun held => ?_, fun held => ?_, fun k held => ?_⟩,
    fun s r running => ⟨fun q slot => ⟨fun runs => ?_, fun runs => ?_⟩, fun booting runs => ?_, fun empty => ?_,
      fun notBooting => ?_⟩⟩
  · obtain ⟨sweep, radio⟩ := p.radio_moduleFault g r
    have changed : (p.moduleFault g r).notices.radioChanged = true := rfl
    dsimp only
    rw [radio, changed]
    by_cases few : (p.radio r).faultCount < 2
    · rw [Radio.faulted_of_few (x := (p.radio r).unpowered) few]
      exact ⟨rfl, fun _ => ⟨rfl, rfl⟩, fun many => absurd few (by omega), rfl, rfl, rfl, rfl, rfl, rfl, rfl, rfl, rfl,
        rfl, rfl, rfl, rfl⟩
    · rw [Radio.faulted_of_many (x := (p.radio r).unpowered) (Nat.le_of_not_lt few)]
      exact ⟨rfl, fun few' => absurd few' few, fun _ => rfl, rfl, rfl, rfl, rfl, rfl, rfl, rfl, rfl, rfl, rfl, rfl,
        rfl, rfl⟩
  · rw [Part.moduleFault_eq, held]
    exact ⟨p.claims_downed r, p.window_downed r, fun k => (show _ = _ by cases k <;> rfl).trans (p.call_downed r k)⟩
  · rw [Part.moduleFault_eq, held]
    exact ⟨p.claims_downed r, rfl, fun k => (show _ = _ by cases k <;> rfl).trans (p.call_downed r k)⟩
  · rw [Part.moduleFault_eq, held]
    refine ⟨(Part.claims_removeSweep _ r).trans (p.claims_downed r), ?_, ?_, fun k => ?_⟩
    · rw [Part.radio_raiseRadioChanged]
      simp [Part.tellRevoked, Part.surveyLosesRcu]
    · simp [Part.raiseRadioChanged, Part.tellRevoked, Part.surveyLosesRcu, Part.surveyIdle]
    · have call := (Part.call_removeSweep (p.downed r) r k).trans (p.call_downed r k)
      cases k <;> exact call
  · dsimp only
    rw [Part.moduleFault_record g held]
    generalize hu : ((p.downed r).removeSweep r).closeLent k = u
    have call : u.call k = p.call k := by rw [← hu]; simp
    refine ⟨fun seeks => ⟨u.revokeSeeker k, ?_, ?_⟩, fun connected => ⟨u.revokeConnected g k, ?_, ?_⟩,
      fun undone _ => ?_⟩
    · rw [Part.recordRevoked, hu]
      rw [call]
      rcases seeks with h | h | h | h | h <;> rw [h] <;> rfl
    · obtain ⟨record, others, claims, sweep, holder, other, stack, lent, kept, back, young⟩ :=
        Part.revocation_facts (p := p) (r := r) CallRec.revoked hu.symm ⟨_, _, rfl⟩
      refine ⟨record, others, claims, sweep, holder, other, stack, lent, kept, fun d _ connected => ?_, back, young⟩
      rcases seeks with h | h | h | h | h <;> rw [h] at connected <;> cases connected
    · rw [Part.recordRevoked, hu]
      rw [call, connected]
      rfl
    · have voices : ∃ a b, (match k.side with
          | some d => u.setVoice d none
          | none => u) = { u with voiceA := a, voiceB := b } := by
        cases k
        · exact ⟨none, u.voiceB, rfl⟩
        · exact ⟨u.voiceA, none, rfl⟩
        · exact ⟨u.voiceA, u.voiceB, rfl⟩
      obtain ⟨record, others, claims, sweep, holder, other, stack, lent, kept, back, young⟩ :=
        Part.revocation_facts (p := p) (r := r) (CallRec.revokedConnected g) hu.symm voices
      refine ⟨record, others, claims, sweep, holder, other, stack, lent, kept, fun d side _ => ?_, back, young⟩
      rw [Part.revokeConnected, side, Part.voice_modCall, Part.voice_emptyPlan, Part.voice_setVoice_self]
    · have gone : ((p.downed r).removeSweep r).recordRevoked g k = u.requeueUndone g k := by
        rw [Part.recordRevoked, hu]
        rw [call]
        rcases undone with h | h <;> rw [h]
      have radio : u.radio r = { (p.downed r).radio r with sweep := none } := by
        rw [← hu, Part.radio_closeLent, Part.radio_downed_removeSweep]
      obtain ⟨idle, cause, free, out⟩ := Part.requeueUndone_facts g (u := u) (r := r) (k := k)
        (by rw [radio]; exact p.broken_downed r) (by rw [radio]; exact p.holder_downed r)
      rw [gone, Part.call_raiseRadioChanged]
      exact ⟨idle, cause, free, out⟩
  · have ok : (s.part.radio r).ackRuns = true := by
      rcases runs with ack | ⟨c, cancel, ack⟩
      · simp [Radio.ackRuns, slot, Pending.ackRuns, ack]
      · simp [Radio.ackRuns, slot, Pending.ackRuns, cancel, ack]
    exact congrArg Host.Outcome.next (State.eventIf_taken running _ ok)
  · have ok : (s.part.radio r).faultRuns = true := by
      rcases runs with ⟨wait, hard⟩ | ⟨c, cancel, wait⟩
      · simp [Radio.faultRuns, slot, Pending.faultRuns, wait, hard]
      · simp [Radio.faultRuns, slot, Pending.faultRuns, cancel, wait]
    exact congrArg Host.Outcome.next (State.eventIf_taken running _ ok)
  · have ok : (s.part.radio r).awaitsReady = true := by simp [Radio.awaitsReady, booting, runs]
    exact congrArg Host.Outcome.next (State.eventIf_taken running _ ok)
  · exact ⟨congrArg Host.Outcome.next (State.eventIf_stopped _ (by simp [Radio.ackRuns, empty])),
      congrArg Host.Outcome.next (State.eventIf_stopped _ (by simp [Radio.faultRuns, empty])),
      congrArg Host.Outcome.next (State.eventIf_stopped _ (by simp [Radio.failureRuns, empty]))⟩
  · exact congrArg Host.Outcome.next (State.eventIf_stopped _ (by simp [Radio.awaitsReady, notBooting]))

/-! ## Doze, recovery and the failure expiry -/

/-- R74: an RCU that comes back stays powered unless the part is in SHED and the RCU is not its reserve. -/
theorem Part.stays_iff (p : Part) (r : RcuId) :
    (p.power.level != .shed || p.reserveOnReturn r) = true ↔
      p.power.level ≠ .shed ∨ r = .rcu0 ∨ p.radio0.broken = true := by
  cases r <;> simp [Part.reserveOnReturn]

/-- Clearing the fault count of the RCU does not change which RCU is the reserve. -/
theorem Part.stays_forgiven (p : Part) (r : RcuId) :
    let q := p.modRadio r fun x => { x with faultCount := 0, proving := false }
    (q.power.level != .shed || q.reserveOnReturn r) = (p.power.level != .shed || p.reserveOnReturn r) := by
  cases r <;> rfl

theorem Part.returnRadio_of_stays {p : Part} {r : RcuId}
    (stays : (p.power.level != .shed || p.reserveOnReturn r) = true) :
    p.returnRadio r = (p.modRadio r fun x => { x with recoveryTimer := none }.boot).raiseRadioChanged := by
  simp only [Part.returnRadio, stays, if_true]

theorem Part.returnRadio_of_shed {p : Part} {r : RcuId}
    (shed : ¬ (p.power.level != .shed || p.reserveOnReturn r) = true) :
    p.returnRadio r = (p.modRadio r fun x => { x with recoveryTimer := none, condition := .off }).raiseRadioChanged := by
  simp only [Part.returnRadio, shed]
  rfl

/-- Settles O18: doze, recovery and RESTORE_RADIO are single changes of one RCU. -/
theorem radiosDozeAndRecover : Obligations.RadiosDozeAndRecover := by
  refine ⟨fun s r running timer awake empty free => ?_, fun s r running => ⟨fun faulted timer =>
    ⟨fun stays => ?_, fun shed => ?_⟩, fun broken stays => ?_, fun broken shed => ?_⟩⟩
  · have ok : (s.part.radio r).mayDoze = true := by
      simp [Radio.mayDoze, Radio.isReady, timer, awake, empty, free]
    exact congrArg Host.Outcome.next (State.eventIf_taken running _ ok)
  · have ok : (s.part.radio r).recovers = true := by simp [Radio.recovers, faulted, timer]
    refine congrArg Host.Outcome.next ((State.eventIf_taken running _ ok).trans ?_)
    rw [Part.returnRadio_of_stays ((s.part.stays_iff r).mpr stays)]
    rfl
  · have ok : (s.part.radio r).recovers = true := by simp [Radio.recovers, faulted, timer]
    refine congrArg Host.Outcome.next ((State.eventIf_taken running _ ok).trans ?_)
    rw [Part.returnRadio_of_shed (mt (s.part.stays_iff r).mp shed)]
    rfl
  · rw [Part.restoreRadio, if_pos broken,
      Part.returnRadio_of_stays (by rw [Part.stays_forgiven]; exact (s.part.stays_iff r).mpr stays)]
    cases r <;> rfl
  · rw [Part.restoreRadio, if_pos broken,
      Part.returnRadio_of_shed (by rw [Part.stays_forgiven]; exact mt (s.part.stays_iff r).mp shed)]
    cases r <;> rfl

/-- Settles O19: R62 for the RELEASE and REJECT orders, whose expiry counts as done. -/
theorem releaseExpiryIsDone : Obligations.ReleaseExpiryIsDone := by
  intro s r q running slot waits
  have soft : ∀ f : Part, q.order = .release ∨ q.order = .reject → f = s.part.failureExpires s.settings r q →
      exec (.failureExpiry r) s = .next (s.conclude f) := by
    rintro f order rfl
    have ok : (s.part.radio r).failureRuns = true := by
      rcases order with order | order <;> simp [Radio.failureRuns, slot, Pending.failureRuns, waits, order, Order.failsSoft]
    refine congrArg Host.Outcome.next ((State.eventIf_taken running _ ok).trans ?_)
    rw [Part.failureExpiry, slot]
  refine ⟨fun order issuer => soft _ (.inl order) ?_, fun order issuer => soft _ order ?_⟩
  · simp only [Part.failureExpires, issuer, order]
  · rcases order with order | order <;> simp only [Part.failureExpires, issuer, order, Part.reportSubstitute]

end Sys2Proof.Machine

/-! # Calls: attaching and dialling -/

namespace Sys2Proof.Machine

set_option Elab.async false

/-! ## The subscribed carriers, the access and the DIAL -/

theorem Settings.mem_of_operatorFor {g : Settings} {carrier : Nat} {o : OperatorRec}
    (h : g.operatorFor carrier = some o) : some o ∈ g.operators ∧ o.carrier = carrier := by
  have found := Option.join_eq_some_iff.mp h
  exact ⟨List.mem_of_find?_eq_some found, by simpa using List.find?_some found⟩

theorem Settings.carrier_ne_of_operatorFor_none {g : Settings} {carrier : Nat} (h : g.operatorFor carrier = none)
    {o : OperatorRec} (mem : some o ∈ g.operators) : o.carrier ≠ carrier := by
  intro same
  cases found : g.operators.find? fun o => o.any (·.carrier == carrier) with
  | none => simpa [same] using List.find?_eq_none.mp found _ mem
  | some x =>
    have holds := List.find?_some found
    obtain rfl : x = Option.none := by simpa [Settings.operatorFor, found] using h
    cases holds

/-- R163: a carrier has one record. -/
theorem Settings.operatorFor_of_mem {g : Settings} (ok : g.Ok) {o : OperatorRec} (mem : some o ∈ g.operators) :
    g.operatorFor o.carrier = some o := by
  cases found : g.operatorFor o.carrier with
  | none => exact absurd rfl (Settings.carrier_ne_of_operatorFor_none found mem)
  | some o' =>
    obtain ⟨mem', same⟩ := Settings.mem_of_operatorFor found
    obtain ⟨i, hi⟩ := List.mem_iff_getElem?.mp mem
    obtain ⟨j, hj⟩ := List.mem_iff_getElem?.mp mem'
    obtain rfl := ok.oneRecordPerCarrier i j o o' hi hj same.symm
    exact Option.some.inj (hj.symm.trans hi)

theorem Settings.subscribed_eq_true (g : Settings) (carrier : Nat) :
    g.subscribed carrier = true ↔ ∃ o, g.operatorFor carrier = some o ∧ o.subscribed = true := by
  simp [Settings.subscribed, Option.any_eq_true]

theorem Entry.accessFor_eq_full (g : Settings) (e : Entry) :
    e.accessFor g = .full ↔ g.subscribed e.carrier = true ∧ e.fullRefused = false := by
  unfold Entry.accessFor
  split <;> simp_all

/-- R104, R118: the number a record dials. -/
theorem Part.destinationFor_eq (g : Settings) (p : Part) (k : RecId) (access : Access) (opsFailed : Bool) :
    p.destinationFor g k access opsFailed = if k = .test then .ops
      else if access = .limited ∨ ((p.call k).regain = true ∧ (p.call k).answeredDest = some .publicNumber) ∨
        g.opsDigits = [] ∨ opsFailed = true then .publicNumber
      else .ops := by
  have panel : ∀ c : CallRec, c.destination g access opsFailed =
      if access = .limited ∨ (c.regain = true ∧ c.answeredDest = some .publicNumber) ∨ g.opsDigits = [] ∨
        opsFailed = true then .publicNumber else .ops := by
    intro c
    unfold CallRec.destination
    grind
  cases k
  · exact panel p.sideA
  · exact panel p.sideB
  · rfl

theorem Settings.digits_eq (g : Settings) (d : Destination) :
    g.digits d = if d = .ops then g.opsDigits else g.publicDigits := by cases d <;> rfl

/-- Settles O20: the DIAL goes to the number that R104 chooses. -/
theorem dialsFollowTheAccess : Obligations.DialsFollowTheAccess := by
  refine ⟨fun g carrier => ⟨fun subscribed => ?_, ?_⟩, fun g e => e.accessFor_eq_full g, ?_⟩
  · obtain ⟨o, found, marked⟩ := (g.subscribed_eq_true carrier).mp subscribed
    obtain ⟨mem, same⟩ := Settings.mem_of_operatorFor found
    exact ⟨o, mem, same, marked⟩
  · rintro o ok mem rfl
    simp [Settings.subscribed, Settings.operatorFor_of_mem ok mem]
  · intro g p k r a attempt awake empty d
    have destination : p.destinationFor g k a.access a.opsFailed = d := p.destinationFor_eq g k a.access a.opsFailed
    refine ⟨fun dials => ?_, fun test none => ?_⟩
    · have goes : ¬ (k = .test ∧ g.opsDigits = []) := by
        rintro ⟨test, none⟩
        exact dials.elim (· test) (· none)
      simp only [Part.offerDial, attempt, if_neg goes, destination, Settings.digits_eq]
      exact Part.offer_ready _ r _ (by rw [Part.radio_modCall]; exact awake) (by rw [Part.radio_modCall]; exact empty) rfl
    · simp only [Part.offerDial, attempt, if_pos (And.intro test none)]
      rfl

/-! ## What an awaited attach is told -/

/-- The outcome of an attach, at the record that waits for it. -/
theorem State.attach_told {s : State} {r : RcuId} {k : RecId} {q : Pending} {tag : Byte} {o : ModuleOutcome}
    (awaits : s.part.awaits k r q) (same : q.tag = tag.toNat)
    (attach : (∃ key access, q.order = .attach key access) ∨ q.order = .attachAny)
    (answers : q.order.answeredBy o = true) :
    s.part.outcomeArrives s.settings r o tag.toNat =
      (s.part.answeredOn r).recordTakes s.settings k r q.order o := by
  have other : o ≠ .cancelDone ∧ o ≠ .alerting := by
    constructor <;> rintro rfl <;> rcases attach with ⟨key, access, order⟩ | order <;> rw [order] at answers <;>
      cases answers
  refine Part.outcomeArrives_told s.settings s.part r k q o _ awaits same answers other.1 ?_ ?_ ?_ other.2
  · rcases attach with ⟨key, access, order⟩ | order <;> simp [order]
  · rcases attach with ⟨key, access, order⟩ | order <;> simp [order]
  · exact fun p => Part.applyOutcome_same (attach.imp id .inl)

theorem Part.recordTakes_attaching {p : Part} {k : RecId} (attaching : (p.call k).state = .attaching) (g : Settings)
    (r : RcuId) (o : Order) :
    p.recordTakes g k r o .rejectedBarred = p.attachRefused k r .barred Entry.barredAt ∧
    p.recordTakes g k r o .rejectedSubscription = p.attachRefused k r .subscription (fun _ e => e.subscriptionRefused) ∧
    p.recordTakes g k r o .rejectedCongested = p.attachFails k .congested Entry.failed ∧
    p.recordTakes g k r o .noCell = p.attachFails k .noCell Entry.notFound := by
  simp [Part.recordTakes, attaching]

theorem Part.attachFails_eq {p : Part} {k : RecId} {a : Attempt} (attempt : (p.call k).attempt = some a) (cause : Cause)
    (f : Entry → Entry) : p.attachFails k cause f = (p.modTarget a.target f).failTry k cause := by
  simp only [Part.attachFails, attempt]

/-- R106: a refused FULL attach of a panel record turns to LIMITED. -/
theorem Part.attachRefused_turns {p : Part} {d : Side} {r : RcuId} {a : Attempt} {cell : CarrierKey}
    (attempt : (p.call d.record).attempt = some a) (full : a.access = .full) (known : a.cell = some cell)
    (cause : Cause) (f : Access → Entry → Entry) :
    p.attachRefused d.record r cause f = ((p.modTarget a.target (f .full)).modCall d.record fun c =>
      { c with lastCause := cause,
               attempt := some { a with access := .limited, destination := .publicNumber } }).offer r
        (.attach cell.key .limited) := by
  cases d <;> simp only [Part.attachRefused, attempt, full, known] <;> rfl

/-- R107, R118: any other refused attach fails the try. -/
theorem Part.attachRefused_ends {p : Part} {k : RecId} {r : RcuId} {a : Attempt}
    (attempt : (p.call k).attempt = some a) (ends : a.access = .limited ∨ k = .test) (cause : Cause)
    (f : Access → Entry → Entry) :
    p.attachRefused k r cause f = (p.modTarget a.target (f a.access)).failTry k cause := by
  rw [← Part.attachFails_eq attempt]
  simp only [Part.attachRefused, attempt]
  rcases ends with limited | rfl
  · rw [limited]
  · cases a.access <;> rfl

/-! ## The outcome frames, one by one -/

section

variable {s : State} {r : RcuId} {tag : Byte} (hears : s.hears r) (low : 1 ≤ tag.toNat) (high : tag.toNat ≤ 15)

include hears low high

theorem exec_notHeard : exec (.notHeard r tag) s =
    .next (s.conclude (s.part.outcomeArrives s.settings r .notHeard tag.toNat)) :=
  congrArg Host.Outcome.next (State.receive_outcome hears low high (by simp) (by decide) rfl)

theorem exec_rejectedBarred : exec (.rejectedBarred r tag) s =
    .next (s.conclude (s.part.outcomeArrives s.settings r .rejectedBarred tag.toNat)) :=
  congrArg Host.Outcome.next (State.receive_outcome hears low high (by simp) (by decide) rfl)

theorem exec_rejectedCongested : exec (.rejectedCongested r tag) s =
    .next (s.conclude (s.part.outcomeArrives s.settings r .rejectedCongested tag.toNat)) :=
  congrArg Host.Outcome.next (State.receive_outcome hears low high (by simp) (by decide) rfl)

theorem exec_rejectedSubscription : exec (.rejectedSubscription r tag) s =
    .next (s.conclude (s.part.outcomeArrives s.settings r .rejectedSubscription tag.toNat)) :=
  congrArg Host.Outcome.next (State.receive_outcome hears low high (by simp) (by decide) rfl)

theorem exec_noCell : exec (.noCell r tag) s =
    .next (s.conclude (s.part.outcomeArrives s.settings r .noCell tag.toNat)) :=
  congrArg Host.Outcome.next (State.receive_outcome hears low high (by simp) (by decide) rfl)

theorem exec_alerting : exec (.alerting r tag) s =
    .next (s.conclude (s.part.outcomeArrives s.settings r .alerting tag.toNat)) :=
  congrArg Host.Outcome.next (State.receive_outcome hears low high (by simp) (by decide) rfl)

theorem exec_answered : exec (.answered r tag) s =
    .next (s.conclude (s.part.outcomeArrives s.settings r .answered tag.toNat)) :=
  congrArg Host.Outcome.next (State.receive_outcome hears low high (by simp) (by decide) rfl)

theorem exec_dialRejected : exec (.dialRejected r tag) s =
    .next (s.conclude (s.part.outcomeArrives s.settings r .dialRejected tag.toNat)) :=
  congrArg Host.Outcome.next (State.receive_outcome hears low high (by simp) (by decide) rfl)

theorem exec_delivered : exec (.delivered r tag) s =
    .next (s.conclude (s.part.outcomeArrives s.settings r .delivered tag.toNat)) :=
  congrArg Host.Outcome.next (State.receive_outcome hears low high (by simp) (by decide) rfl)

theorem exec_notDelivered : exec (.notDelivered r tag) s =
    .next (s.conclude (s.part.outcomeArrives s.settings r .notDelivered tag.toNat)) :=
  congrArg Host.Outcome.next (State.receive_outcome hears low high (by simp) (by decide) rfl)

theorem exec_done : exec (.done r tag) s =
    .next (s.conclude (s.part.outcomeArrives s.settings r .done tag.toNat)) :=
  congrArg Host.Outcome.next (State.receive_outcome hears low high (by simp) (by decide) rfl)

theorem exec_camped : exec (.camped r tag) s =
    .next (s.conclude (s.part.outcomeArrives s.settings r .camped tag.toNat)) :=
  congrArg Host.Outcome.next (State.receive_outcome hears low high (by simp) (by decide) rfl)

theorem exec_accepted_none : exec (.accepted r tag none) s =
    .next (s.conclude (s.part.outcomeArrives s.settings r (.accepted none) tag.toNat)) :=
  congrArg Host.Outcome.next (State.receive_outcome hears low high (by decide) (by decide) rfl)

theorem exec_accepted_some {c : CellReport} (inRange : c.inRange = true) : ∃ kind barring,
      accessKindOf c.kind.toNat = some kind ∧ barringOf c.barring.toNat = some barring ∧
      exec (.accepted r tag (some c)) s = .next (s.conclude (s.part.outcomeArrives s.settings r (.accepted (some
        ({ key := { band := c.band.toNat, channel := c.channel.toNat }, carrier := c.carrier.toNat },
          kind, barring))) tag.toNat)) := by
  obtain ⟨-, -, -, -, -, -, -, -, -, -, -, -, -, -, -, reports, -⟩ := outcomeFramesArrive s r tag hears low high
  exact reports c inRange

end

/-- Settles O21: the acceptance is told to the record, which dials. -/
theorem acceptedAttachesDial : Obligations.AcceptedAttachesDial := by
  refine ⟨fun s r k tag q a hears awaits same low high attaching attempt =>
    ⟨fun key access i report order target inRange => ?_, fun order target => ?_, fun c order target inRange => ?_⟩,
    fun g p k a cell kind barring => ⟨fun i slot => ?_, fun absent => ?_, fun i e slot entry => ?_⟩⟩
  · have told : ∀ x, s.part.outcomeArrives s.settings r (.accepted x) tag.toNat =
        ((((s.part.answeredOn r).modEntry i fun e => { e with failures := 0 }).modCall k fun c =>
          { c with attempt := some { a with attached := true } }).offerDial s.settings k r) := by
      intro x
      rw [State.attach_told awaits same (.inl ⟨key, access, order⟩) (by rw [order]; rfl), order]
      simp only [Part.recordTakes, Part.call_answeredOn, attaching, Part.attachAccepted, attempt, target]
      rfl
    cases report with
    | none => rw [exec_accepted_none hears low high, told]
    | some c =>
      obtain ⟨kind, barring, -, -, arrives⟩ := exec_accepted_some hears low high (c := c) inRange
      rw [arrives, told]
  · rw [exec_accepted_none hears low high, Part.outcomeArrives_stray _ _ _ awaits.1 (by simp)]
    exact .inr (.inr (by rw [order]; rfl))
  · obtain ⟨kind, barring, hk, hb, arrives⟩ := exec_accepted_some hears low high inRange
    refine ⟨kind, barring, hk, hb, ?_⟩
    rw [arrives, State.attach_told awaits same (.inr order) (by rw [order]; rfl), order]
    simp only [Part.recordTakes, Part.call_answeredOn, attaching, Part.attachAccepted, attempt, target]
  · simp only [Part.insertBlind, slot]
    rfl
  · simp only [Part.insertBlind, absent]
  · have placed : (p.insertBlind g cell kind barring).placed cell.key = some (i, e) := by
      simp only [Part.placed, slot, entry, Option.bind_some, Option.map_some]
    simp only [Part.blindAccepted, placed]
    rfl

/-- R62: the failure expiry of a holder's order. -/
theorem State.failure_taken {s : State} {r : RcuId} {q : Pending} (running : s.isHeld = false)
    (slot : (s.part.radio r).slot = some q) (issuer : q.issuer = .holder) (waits : q.phase = .outcomeWait)
    (soft : q.order.failsSoft = true) : exec (.failureExpiry r) s = .next (s.conclude
      (((s.part.reportSubstitute s.settings r q.order).applyOutcome r q.order .done).abandon r)) := by
  have runs : (s.part.radio r).failureRuns = true := by simp [Radio.failureRuns, slot, Pending.failureRuns, waits, soft]
  refine congrArg Host.Outcome.next ((State.eventIf_taken running _ runs).trans ?_)
  simp only [Part.failureExpiry, slot, Part.failureExpires, issuer]

/-- Settles O22: each refusal is told to the record, which turns to LIMITED or fails its try. -/
theorem refusedAttachesTurnOrEnd : Obligations.RefusedAttachesTurnOrEnd := by
  refine ⟨fun s r d tag q key a i cell hears awaits same low high order attaching attempt full target known => ?_,
    fun s r k tag q a hears awaits attach same low high attaching attempt => ?_⟩
  · have told := fun o => State.attach_told (o := o) awaits same (.inl ⟨key, .full, order⟩)
    have takes := Part.recordTakes_attaching (p := s.part.answeredOn r) (by simpa using attaching) s.settings r q.order
    obtain ⟨barred, subscription, -, -⟩ := takes
    have turns := Part.attachRefused_turns (p := s.part.answeredOn r) (r := r) (by simpa using attempt) full known
    refine ⟨?_, ?_⟩
    · rw [exec_rejectedBarred hears low high, told _ (by rw [order]; rfl), barred, turns, target]
      rfl
    · rw [exec_rejectedSubscription hears low high, told _ (by rw [order]; rfl), subscription, turns, target]
      rfl
  · have answers : ∀ o : ModuleOutcome, o = .rejectedBarred ∨ o = .rejectedCongested ∨ o = .rejectedSubscription ∨
        o = .noCell → q.order.answeredBy o = true := by
      rintro o ho
      rcases attach with ⟨key, access, order⟩ | order <;> rcases ho with rfl | rfl | rfl | rfl <;> rw [order] <;> rfl
    have told := fun o ho => State.attach_told (o := o) awaits same attach (answers o ho)
    obtain ⟨barred, subscription, congested, noCell⟩ :=
      Part.recordTakes_attaching (p := s.part.answeredOn r) (by simpa using attaching) s.settings r q.order
    have fails := Part.attachFails_eq (p := s.part.answeredOn r) (by simpa using attempt)
    have ends := Part.attachRefused_ends (p := s.part.answeredOn r) (r := r) (by simpa using attempt)
    refine ⟨?_, ?_, fun limited => ?_, fun full test => ?_, fun last => ?_, fun waits => ?_, fun p i f => ⟨rfl, rfl⟩⟩
    · rw [exec_rejectedCongested hears low high, told _ (by simp), congested, fails]
      rfl
    · rw [exec_noCell hears low high, told _ (by simp), noCell, fails]
      rfl
    · rw [exec_rejectedBarred hears low high, told _ (by simp), barred, ends (.inl limited), limited]
      rfl
    · rw [exec_rejectedBarred hears low high, told _ (by simp), barred, ends (.inr test), full]
      rfl
    · rw [exec_rejectedSubscription hears low high, told _ (by simp), subscription, ends last]
      rfl
    · have soft : q.order.failsSoft = true := by rcases attach with ⟨key, access, order⟩ | order <;> rw [order] <;> rfl
      have timesOut : s.part.reportSubstitute s.settings r q.order = s.part.attachTimeout r := by
        rcases attach with ⟨key, access, order⟩ | order <;> rw [order] <;> rfl
      have record : ((s.part.radio r).holder).bind Holder.record = some k := by
        rw [awaits.2.1]
        cases k <;> rfl
      rw [State.failure_taken hears.1.1 awaits.1 awaits.2.2.1 waits soft, timesOut, Part.attachTimeout]
      simp only [record, attaching, if_true]
      rw [Part.attachFails_eq attempt, Part.applyOutcome_same (attach.imp id .inl)]
      rfl

end Sys2Proof.Machine

/-! # Calls: the answer, and the dials that fail -/

namespace Sys2Proof.Machine

set_option Elab.async false

/-! ## The answer -/

theorem Part.siteNote_congr {p q : Part} {k : RecId} (call : q.call k = p.call k) (power : q.power = p.power)
    (g : Settings) (access : Access) : q.siteNote g k access = p.siteNote g k access := by
  simp only [Part.siteNote, call, power]

theorem Part.announce_eq {p : Part} {k : RecId} {a : Attempt} (attempt : (p.call k).attempt = some a) (g : Settings)
    (r : RcuId) : p.announce g k r = (p.modCall k fun c =>
      { c with answeredDest := some a.destination, state := .announcing }).offer r
        (.sendNote (p.siteNote g k a.access)) := by
  simp only [Part.announce, attempt]

theorem Holder.record_holder (k : RecId) : k.holder.record = some k := by cases k <;> rfl

theorem Part.holderRecord {p : Part} {r : RcuId} {k : RecId} (held : (p.radio r).holder = some k.holder) :
    (p.radio r).holder.bind Holder.record = some k := by
  rw [held, Option.bind_some, Holder.record_holder]

/-- R111: the notice ANSWERED at a RINGING record. -/
theorem Part.takeAnswered_ringing {p : Part} {r : RcuId} {k : RecId} (held : (p.radio r).holder = some k.holder)
    (inCall : (p.radio r).condition = .inCall) (runs : (p.radio r).answerTimer.isSome = true)
    (ringing : (p.call k).state = .ringing) (g : Settings) :
    p.takeAnswered g r = (p.modRadio r fun x => { x with answerTimer := none }).announce g k r := by
  simp only [Part.takeAnswered]
  rw [if_pos ⟨inCall, runs⟩]
  simp only [Part.holderRecord held]
  rw [if_pos (by rw [Part.call_setRadio]; exact ringing)]
  rfl

/-- Settles O23: RINGING starts the answer timer, and each of the two answers offers the note. -/
theorem answeredCallsAnnounce : Obligations.AnsweredCallsAnnounce := by
  intro s r k a hears attempt note announces
  have announced : ∀ q : Part, q.call k = s.part.call k → q.power = s.part.power →
      q.announce s.settings k r = announces q := by
    intro q call power
    rw [Part.announce_eq (call ▸ attempt), Part.siteNote_congr call power]
    rfl
  refine ⟨fun tag q digits awaits order same low high dialling awake => ⟨?_, ?_⟩, fun held inCall runs ringing => ?_⟩
  · rw [exec_alerting hears low high, Part.outcomeArrives_awaited _ _ r k q _ _ awaits same (by rw [order]; rfl)
      (by simp) (by simp [order]) (by simp [order]), order]
    simp [Part.applyOutcome, awake, Part.startAnswerTimer, Part.recordTakes, dialling, Config.second]
  · rw [exec_answered hears low high, Part.outcomeArrives_awaited _ _ r k q _ _ awaits same (by rw [order]; rfl)
      (by simp) (by simp [order]) (by simp [order]), order, ← announced _ (by simp) (by simp)]
    simp [Part.applyOutcome, awake, Part.startAnswerTimer, Part.recordTakes, dialling]
  · refine congrArg Host.Outcome.next ((State.receivePlain_notice (n := .answered) hears (by decide) rfl).trans ?_)
    rw [Part.takeNotice, Part.takeAnswered_ringing held inCall runs ringing, announced _ (by simp) (by simp)]

/-! ## Dials that fail -/

theorem Part.offer_busy {p : Part} {r : RcuId} {q : Pending} (slot : (p.radio r).slot = some q) (o : Order) :
    p.offer r o = p :=
  Part.modRadio_same (by simp [Radio.offer, slot])

/-- The record's RCU is ready for an order (R56). -/
theorem Part.ready_iff (p : Part) (r : RcuId) :
    p.ready r = true ↔ (p.radio r).condition = .awake ∧ (p.radio r).slot = none := by
  simp [Part.ready, Radio.isReady]

theorem Part.dialRejected_ops {p : Part} {k : RecId} {a : Attempt} (attempt : (p.call k).attempt = some a)
    (ops : a.destination = .ops) (panel : k ≠ .test) (r : RcuId) :
    p.dialRejected k r = p.opsFails k r .dialRejected a := by
  cases k
  · simp only [Part.dialRejected, attempt, ops]; rfl
  · simp only [Part.dialRejected, attempt, ops]; rfl
  · exact absurd rfl panel

theorem Part.dialRejected_test {p : Part} {a : Attempt} (attempt : (p.call .test).attempt = some a)
    (ops : a.destination = .ops) (r : RcuId) : p.dialRejected .test r = p.failTry .test .dialRejected := by
  simp only [Part.dialRejected, attempt, ops]
  rfl

theorem Part.dialRejected_public {p : Part} {k : RecId} {a : Attempt} (attempt : (p.call k).attempt = some a)
    (number : a.destination = .publicNumber) (r : RcuId) :
    p.dialRejected k r = (p.modTarget a.target Entry.failed).failTry k .dialRejected := by
  simp only [Part.dialRejected, attempt, number]

theorem Part.noAnswer_ops {p : Part} {k : RecId} {a : Attempt} (attempt : (p.call k).attempt = some a)
    (ops : a.destination = .ops) (panel : k ≠ .test) (r : RcuId) :
    p.noAnswer k r = p.opsFails k r .noAnswer a := by
  cases k
  · simp only [Part.noAnswer, attempt, ops]; rfl
  · simp only [Part.noAnswer, attempt, ops]; rfl
  · exact absurd rfl panel

theorem Part.noAnswer_last {p : Part} {k : RecId} {a : Attempt} (attempt : (p.call k).attempt = some a)
    (last : a.destination = .publicNumber ∨ k = .test) (r : RcuId) :
    p.noAnswer k r = (p.modCall k fun c => { c with lastCause := .noAnswer, state := .dialling }).offer r .release := by
  simp only [Part.noAnswer, attempt]
  rcases last with number | rfl
  · rw [number]
  · cases a.destination <;> rfl

theorem Reaction.dialPublic_enabled (p : Part) (k : RecId) :
    (Reaction.dialPublic k).enabled p = true ↔ (p.call k).state = .dialling ∧
      (∃ r, p.callRcu k = some r ∧ (p.radio r).condition = .awake ∧ (p.radio r).slot = none) ∧
      ∃ a, (p.call k).attempt = some a ∧ a.destination = .ops ∧ a.opsFailed = true := by
  simp [Reaction.enabled, Part.turnsPublic, Option.any_eq_true, Part.ready_iff, and_assoc, and_comm]

theorem Part.releaseDone_turns {p : Part} {k : RecId} {a : Attempt} (dialling : (p.call k).state = .dialling)
    (attempt : (p.call k).attempt = some a) (ops : a.destination = .ops) (failed : a.opsFailed = true) :
    p.releaseDone k = p := by
  simp only [Part.releaseDone, dialling, attempt]
  exact if_pos ⟨ops, failed⟩

theorem Part.releaseDone_fails {p : Part} {k : RecId} {a : Attempt} (dialling : (p.call k).state = .dialling)
    (attempt : (p.call k).attempt = some a) (last : a.destination = .publicNumber ∨ a.opsFailed = false) :
    p.releaseDone k = p.failTry k (p.call k).lastCause := by
  have goes : ¬ (a.destination = .ops ∧ a.opsFailed = true) := by
    rintro ⟨ops, failed⟩
    rcases last with number | kept
    · rw [ops] at number
      cases number
    · rw [failed] at kept
      cases kept
  simp only [Part.releaseDone, dialling, attempt]
  exact if_neg goes

/-- Settles O24: what fails a dial, told by the outcome, by the expiry of its limit or by the answer timer. -/
theorem failedDialsTurnOrEndTheTry : Obligations.FailedDialsTurnOrEndTheTry := by
  refine ⟨fun g p k => ⟨Reaction.dialPublic_enabled p k, ?_⟩,
    fun s r k a hears attempt held => ⟨fun tag q digits awaits order same low high dialling => ?_,
      fun ringing runs => ?_, fun tag q awaits order same low high dialling => ?_⟩⟩
  · rintro d r a rfl attempt failed rcu awake empty
    have panel : d.record ≠ .test := by cases d <;> decide
    have number : p.destinationFor g d.record a.access a.opsFailed = .publicNumber := by
      rw [Part.destinationFor_eq, if_neg panel, if_pos (.inr (.inr (.inr failed)))]
    have dials : ¬ (d.record = .test ∧ g.opsDigits = []) := fun h => panel h.1
    simp only [Reaction.run, Part.onRcu, rcu, Part.offerDial, attempt, number, if_neg dials]
    exact Part.offer_ready _ r _ (by rw [Part.radio_modCall]; exact awake) (by rw [Part.radio_modCall]; exact empty)
      rfl
  · have told : s.part.outcomeArrives s.settings r .dialRejected tag.toNat = (s.part.answeredOn r).dialRejected k r := by
      rw [Part.outcomeArrives_told _ _ r k q _ _ awaits same (by rw [order]; rfl) (by simp) (by simp [order])
        (by simp [order]) (fun p => Part.applyOutcome_same (by simp)) (by simp), order]
      simp only [Part.recordTakes, Part.call_answeredOn, dialling]
    have attempt' : ((s.part.answeredOn r).call k).attempt = some a := by simpa using attempt
    have expired : q.phase = .outcomeWait → exec (.failureExpiry r) s =
        .next (s.conclude ((s.part.dialRejected k r).abandon r)) := by
      intro waits
      rw [State.failure_taken hears.1.1 awaits.1 awaits.2.2.1 waits (by rw [order]; rfl), order]
      simp only [Part.reportSubstitute]
      rw [Part.report_record _ _ _ _ _ _ held (by simp) (by simp)]
      simp only [Part.recordTakes, dialling]
      rfl
    rw [exec_dialRejected hears low high, told]
    refine ⟨fun ops panel => ?_, fun ops test => ?_, fun number => ?_, fun waits => ?_⟩
    · rw [Part.dialRejected_ops attempt' ops panel]
      rfl
    · subst test
      rw [Part.dialRejected_test attempt' ops]
      rfl
    · rw [Part.dialRejected_public attempt' number]
      rfl
    · rw [expired waits]
      refine ⟨fun ops panel => ?_, fun ops test => ?_, fun number => ?_⟩
      · rw [Part.dialRejected_ops attempt ops panel, Part.opsFails, Part.offer_busy (q := q) (by simpa using awaits.1)]
      · subst test
        rw [Part.dialRejected_test attempt ops]
        rfl
      · rw [Part.dialRejected_public attempt number]
        rfl
  · intro stopped
    have taken : exec (.answerTimerExpiry r) s = .next (s.conclude (stopped.noAnswer k r)) := by
      refine congrArg Host.Outcome.next ((State.eventIf_taken hears.1.1 _ runs).trans ?_)
      simp only [Part.answerExpires, Part.holderRecord held]
      rw [if_pos (by rw [Part.call_modRadio]; exact ringing)]
    have attempt' : (stopped.call k).attempt = some a := by simpa [stopped] using attempt
    rw [taken]
    exact ⟨fun ops panel => by rw [Part.noAnswer_ops attempt' ops panel]; rfl,
      fun last => by rw [Part.noAnswer_last attempt' last]⟩
  · intro done
    have told : exec (.done r tag) s = .next (s.conclude (done.releaseDone k)) := by
      rw [exec_done hears low high, Part.outcomeArrives_awaited _ _ r k q _ _ awaits same (by rw [order]; rfl) (by simp)
        (by simp [order]) (by simp [order]), order]
      simp [Part.startAnswerTimer, Part.recordTakes, dialling, done]
    have call : done.call k = s.part.call k := by simp [done]
    rw [told]
    have dialling' : (done.call k).state = .dialling := by rw [call]; exact dialling
    have attempt' : (done.call k).attempt = some a := by rw [call]; exact attempt
    exact ⟨fun ops failed => by rw [Part.releaseDone_turns dialling' attempt' ops failed],
      fun last => by rw [Part.releaseDone_fails dialling' attempt' last, call]; rfl⟩

end Sys2Proof.Machine

/-! # Calls: the connection and the note -/

namespace Sys2Proof.Machine

set_option Elab.async false

/-! ## What a removal of R20 leaves of the table -/

/-- Entries that lose a pin keep their slot unless they are as old as can be (R20). -/
theorem Part.entries_of_prune {p u q : Part} (before : u.table = p.table) (after : q.table = u.prune.table) :
    (∀ i e, q.entryAt i = some e → p.entryAt i = some e) ∧
      (∀ i e, p.entryAt i = some e → e.age ≠ 15 → q.entryAt i = some e) := by
  have same : ∀ i, u.entryAt i = p.entryAt i := Part.entryAt_congr before
  have pruned : ∀ i, q.entryAt i = u.prune.entryAt i := Part.entryAt_congr after
  refine ⟨fun i e h => ?_, fun i e h young => ?_⟩
  · rw [← same]
    exact Part.entryAt_of_prune u i e (pruned i ▸ h)
  · rw [pruned]
    exact Part.entryAt_prune_young u i e (same i ▸ h) young

/-! ## The entry to CONNECTED -/

theorem Part.startContinuous_inCall {p : Part} {r : RcuId} (inCall : (p.radio r).condition = .inCall)
    (key : Option Key) : p.startContinuous r key = (p.abandonMeasurement r).modRadio r fun x =>
      { x with gate := GateCounter.request 32 true,
               measurement := { phase := .none, key := key, gate := 32, requester := some .callManager, code := none,
                                count := none } } := by
  rw [Part.startContinuous, if_pos inCall]

theorem Side.other_record_ne (d : Side) : d.other.record ≠ d.record := by cases d <;> decide

theorem Side.test_ne_record (d : Side) : RecId.test ≠ d.record := by cases d <;> decide

/-- The record at the entry to CONNECTED (R116, R131). -/
def CallRec.connected (a : Attempt) (c : CallRec) : CallRec :=
  { c with state := .connected, segments := satInc 15 c.segments,
           fullConnection := c.fullConnection || a.access == .full, regain := false, regainTimer := none,
           fadeCount := 0, fading := false }

/-- The part before the continuous measurement of R33 starts. -/
def Part.joined (p : Part) (d : Side) (r : RcuId) (a : Attempt) (cell : CarrierKey) : Part :=
  ((p.setVoice d (some r)).modCall d.record (CallRec.connected a)).pushStack cell

theorem Part.connect_eq {p : Part} {a : Attempt} {cell : CarrierKey} (known : a.cell = some cell) (d : Side) (r : RcuId) :
    p.connect d.record d r a = (p.joined d r a cell).startContinuous r (some cell.key) := by
  simp only [Part.connect, known]
  rfl

@[simp] theorem Part.call_pushStack (p : Part) (c : CarrierKey) (k : RecId) : (p.pushStack c).call k = p.call k := by
  cases k <;> rfl

@[simp] theorem Part.voice_pushStack (p : Part) (c : CarrierKey) (d : Side) : (p.pushStack c).voice d = p.voice d := by
  cases d <;> rfl

@[simp] theorem Part.voice_abandonMeasurement (p : Part) (r : RcuId) (d : Side) :
    (p.abandonMeasurement r).voice d = p.voice d := by cases d <;> simp [Part.voice]

/-- Settles O25: the call is joined, and then its measurement starts. -/
theorem connectionClosesTheVoicePath : Obligations.ConnectionClosesTheVoicePath := by
  intro p d r a cell known inCall q
  have radio : (p.joined d r a cell).radio = p.radio := funext fun r' => by simp [Part.joined]
  have joined : q = ((p.joined d r a cell).abandonMeasurement r).modRadio r fun x =>
      { x with gate := GateCounter.request 32 true,
               measurement := { phase := .none, key := some cell.key, gate := 32, requester := some .callManager,
                                code := none, count := none } } := by
    rw [← Part.startContinuous_inCall (by rw [radio]; exact inCall)]
    exact p.connect_eq known d r
  have table : q.table = (p.joined d r a cell).table := by rw [joined]; simp
  obtain ⟨back, young⟩ := Part.entries_of_prune (p := p) (q := q)
    (u := { (p.setVoice d (some r)).modCall d.record (CallRec.connected a) with stack := pushKey cell _ })
    (by simp) table
  rw [joined] at *
  refine ⟨?_, ?_, ?_, ?_, ?_, ?_, ?_, ?_, ?_, ?_, ?_, ?_, ?_, back, young⟩
  · simp [Part.joined]
  · simp [Part.joined]
  · simp [Part.joined]
    rfl
  · rw [Part.call_modRadio, Part.call_abandonMeasurement, Part.joined, Part.call_pushStack,
      Part.call_modCall_ne _ _ _ _ (Side.other_record_ne d), Part.call_setVoice]
  · have test : (p.joined d r a cell).call .test = p.call .test := by
      rw [Part.joined, Part.call_pushStack, Part.call_modCall_ne _ _ _ _ (Side.test_ne_record d), Part.call_setVoice]
    exact (Part.call_modRadio _ r _ .test).trans ((Part.call_abandonMeasurement _ r .test).trans test)
  · have stack : (p.joined d r a cell).stack = pushKey cell p.stack := by simp [Part.joined, Part.pushStack]
    rw [Part.stack_modRadio, Part.stack_abandonMeasurement, stack]
    refine congrArg (fun others => cell :: others.take 3) (List.filter_congr fun c _ => ?_)
    rw [bne, beq_eq_decide, decide_not]
  · simp [GateCounter.request]
  · simp
  · simp [Part.joined, Part.abandonMeasurement, inCall]
  · simp [Part.joined, Part.abandonMeasurement]
  · rw [Part.radio_modRadio_other, Part.radio_abandonMeasurement_ne _ (RcuId.other_ne r), radio]
  · simp [Part.joined, Part.pushStack]
  · simp [Part.joined, Part.pushStack]

/-! ## The note and the ANSWER -/

theorem Part.noteEnds_panel {p : Part} {d : Side} {a : Attempt} (attempt : (p.call d.record).attempt = some a)
    (r : RcuId) (delivered : Bool) : p.noteEnds d.record r delivered =
      (if delivered then p
        else p.modCall d.record fun c => { c with lastCause := .noteFailed }).connect d.record d r a := by
  cases d <;> simp only [Part.noteEnds, attempt] <;> rfl

theorem Part.noteEnds_test (p : Part) (r : RcuId) (delivered : Bool) : p.noteEnds .test r delivered =
    ((if delivered then p else p.modCall .test fun c => { c with lastCause := .noteFailed }).writeTest
      (if delivered then .passed else .noteFailed)).enterClearing .test := rfl

/-- R141: the call-back's attempt is on the camped cell, at its slot if the table has it. -/
def Part.callbackAttempt (p : Part) (cell : CarrierKey) : Attempt :=
  { target := match p.slotOf cell.key with
      | some i => Target.slot i
      | none => .noTarget,
    cell := some cell, access := .full, destination := .ops, attached := true, opsFailed := false }

theorem Part.callbackAnswered_eq {p : Part} {d : Side} {cell : CarrierKey}
    (paged : (p.call d.record).pagedCell = some cell) (r : RcuId) : p.callbackAnswered d.record r =
      (p.modCall d.record fun c => { c with attempt := some (p.callbackAttempt cell), answeredDest := some .ops,
                                            answerInHand := false, pagedCell := none }).connect d.record d r
        (p.callbackAttempt cell) := by
  cases d <;> simp only [Part.callbackAnswered, paged] <;> rfl

/-- Settles O26: the note's outcome, its failure expiry and the DONE of an ANSWER, told to the record. -/
theorem notesAndAnswersConnect : Obligations.NotesAndAnswersConnect := by
  refine fun s r k tag q hears awaits same low high =>
    ⟨fun note a order announcing attempt => ?_, fun d cell panel order ringing paged awake => ?_⟩
  · have told : ∀ (o : ModuleOutcome) (delivered : Bool), (o = .delivered ∧ delivered = true) ∨
        (o = .notDelivered ∧ delivered = false) →
        s.part.outcomeArrives s.settings r o tag.toNat = (s.part.answeredOn r).noteEnds k r delivered := by
      rintro o delivered (⟨rfl, rfl⟩ | ⟨rfl, rfl⟩)
      all_goals
        rw [Part.outcomeArrives_told _ _ r k q _ _ awaits same (by rw [order]; rfl) (by simp) (by simp [order])
          (by simp [order]) (fun p => by rw [order]; rfl) (by simp), order]
        simp only [Part.recordTakes, Part.call_answeredOn, announcing]
    have expired : q.phase = .outcomeWait →
        exec (.failureExpiry r) s = .next (s.conclude ((s.part.noteEnds k r false).abandon r)) := by
      intro waits
      rw [State.failure_taken hears.1.1 awaits.1 awaits.2.2.1 waits (by rw [order]; rfl), order]
      simp only [Part.reportSubstitute]
      rw [Part.report_record _ _ _ _ _ _ awaits.2.1 (by simp) (by simp)]
      simp only [Part.recordTakes, announcing]
      rfl
    rw [exec_delivered hears low high, exec_notDelivered hears low high, told _ true (.inl ⟨rfl, rfl⟩),
      told _ false (.inr ⟨rfl, rfl⟩)]
    refine ⟨?_, ?_⟩
    · rintro d rfl
      have attempt' : ((s.part.answeredOn r).call d.record).attempt = some a := by simpa using attempt
      rw [Part.noteEnds_panel attempt', Part.noteEnds_panel attempt']
      refine ⟨rfl, rfl, fun waits => ?_⟩
      rw [expired waits, Part.noteEnds_panel attempt]
      rfl
    · rintro rfl
      exact ⟨rfl, rfl, expired⟩
  · subst panel
    generalize hu : (s.part.modRadio r fun x => { x with slot := none, condition := .inCall }).prove r = u
    have table : u.table = s.part.table := by simp [← hu]
    have slot : u.slotOf cell.key = s.part.slotOf cell.key := by rw [Part.slotOf, table]; rfl
    have call : u.call d.record = s.part.call d.record := by simp [← hu]
    refine ⟨u.callbackAttempt cell, rfl, rfl, rfl, rfl, ?_, ?_⟩
    · simp only [Part.callbackAttempt, slot]
      cases s.part.slotOf cell.key <;> rfl
    · rw [exec_done hears low high, Part.outcomeArrives_awaited _ _ r _ q _ _ awaits same (by rw [order]; rfl) (by simp)
        (by simp [order]) (by simp [order]), order, ← Part.callbackAnswered_eq (by rw [call]; exact paged), ← hu]
      simp [Part.applyOutcome, awake, Part.startAnswerTimer, Part.recordTakes, ringing]

end Sys2Proof.Machine

/-! # Drops and the regain plan -/

namespace Sys2Proof.Machine

set_option Elab.async false

/-! ## The ranking lists the eligible entries -/

theorem rankInsert_perm (g : Settings) (x : Nat × Entry) (l : List (Nat × Entry)) :
    (rankInsert g x l).Perm (x :: l) := by
  induction l with
  | nil => exact .refl _
  | cons y rest ih =>
    unfold rankInsert
    split
    · exact .refl _
    · exact (ih.cons y).trans (.swap x y rest)

theorem foldr_rankInsert_perm (g : Settings) (l : List (Nat × Entry)) : (l.foldr (rankInsert g) []).Perm l := by
  induction l with
  | nil => exact .refl _
  | cons x rest ih => exact (rankInsert_perm g x _).trans (ih.cons x)

theorem Part.ranking_perm (g : Settings) (p : Part) :
    (p.ranking g).Perm (p.entries.filter fun x => x.2.eligible g) := foldr_rankInsert_perm g _

theorem Part.mem_ranking (g : Settings) (p : Part) (x : Nat × Entry) :
    x ∈ p.ranking g ↔ p.entryAt x.1 = some x.2 ∧ x.2.eligible g = true := by
  rw [(p.ranking_perm g).mem_iff, List.mem_filter, ← Part.mem_entries]

/-! ## Items are added once -/

theorem addItems_eq_foldl (items l : List PlanItem) : addItems items l =
    l.foldl (fun items x => if x.slot ∈ items.map (·.slot) then items else items ++ [x]) items := by
  induction l generalizing items with
  | nil => rfl
  | cons x rest ih =>
    have present : items.any (·.slot == x.slot) = true ↔ x.slot ∈ items.map (·.slot) := by simp
    unfold addItems
    simp only [present, List.foldl_cons, ← ih]
    split <;> rfl

theorem prefix_addItems (items l : List PlanItem) : items <+: addItems items l := by
  induction l generalizing items with
  | nil => exact List.prefix_rfl
  | cons x rest ih =>
    unfold addItems
    split
    · exact ih items
    · exact (List.prefix_append items [x]).trans (ih _)

theorem addItems_nodup {items : List PlanItem} (once : (items.map (·.slot)).Nodup) (l : List PlanItem) :
    ((addItems items l).map (·.slot)).Nodup := by
  induction l generalizing items with
  | nil => exact once
  | cons x rest ih =>
    unfold addItems
    split
    · exact ih once
    · next absent =>
      refine ih ?_
      have fresh : x.slot ∉ items.map (·.slot) := by simpa using absent
      rw [List.map_append, List.nodup_append]
      exact ⟨once, by simp, by simpa using fun a ha same => fresh (by simpa using ⟨a, ha, same⟩)⟩

/-! ## The regain plan -/

theorem Part.regainPlan_congr {p q : Part} (table : q.table = p.table) (stack : q.stack = p.stack) (g : Settings)
    (dropped : Option Key) : q.regainPlan g dropped = p.regainPlan g dropped := by
  have placed : q.placed = p.placed := by
    funext key
    simp only [Part.placed, Part.slotOf, Part.entryAt, table]
  simp only [Part.regainPlan, Part.ranking, Part.entries, placed, table, stack]

theorem Part.regainPlan_head (g : Settings) {p : Part} {key : Key} {i : Nat} (slot : p.slotOf key = some i) :
    ∃ item, (p.regainPlan g (some key)).head? = some item ∧ item.slot = i := by
  obtain ⟨e, entry, -⟩ := Part.slotOf_eq_some slot
  have first : ((some key).bind p.placed).map (planItem g) = some (planItem g (i, e)) := by
    simp [Part.placed, slot, entry]
  obtain ⟨rest, whole⟩ := (prefix_addItems [planItem g (i, e)] _).trans (prefix_addItems (addItems _
    ((p.stack.filterMap fun c => (p.placed c.key).filter fun x => x.2.eligible g).map (planItem g)))
    ((p.ranking g).map (planItem g)))
  refine ⟨planItem g (i, e), ?_, rfl⟩
  simp only [Part.regainPlan, first, Option.toList_some, ← whole, Config.planLength]
  rfl

/-- R130: an entry's score, as a plan shows it. -/
theorem planItem_eligible {g : Settings} {x : Nat × Entry} (eligible : x.2.eligible g = true) :
    planItem g x = { slot := x.1, score := x.2.score g } := by
  simp [planItem, Entry.shownScore, eligible]

theorem Part.regainPlan_nodup (g : Settings) (p : Part) (dropped : Option Key) :
    ((p.regainPlan g dropped).map (·.slot)).Nodup := by
  have first : ((((dropped.bind p.placed).map (planItem g)).toList).map (·.slot)).Nodup := by
    cases (dropped.bind p.placed).map (planItem g) <;> simp
  rw [Part.regainPlan, List.map_take]
  exact (addItems_nodup (addItems_nodup first _) _).sublist (List.take_sublist _ _)

/-- R130: the three lists of a regain plan are added in their order. -/
theorem Part.regainPlan_eq_foldl (g : Settings) (p : Part) (dropped : Option Key) :
    p.regainPlan g dropped = (((dropped.toList.filterMap p.placed).map (planItem g) ++
      ((p.stack.filterMap fun c => p.placed c.key).filter fun x => x.2.eligible g).map (planItem g) ++
      (p.ranking g).map (planItem g)).foldl
        (fun items x => if x.slot ∈ items.map (·.slot) then items else items ++ [x]) []).take 6 := by
  have first : ((dropped.bind p.placed).map (planItem g)).toList = addItems [] ((dropped.toList.filterMap p.placed).map
      (planItem g)) := by
    cases dropped with
    | none => rfl
    | some key =>
      cases h : p.placed key <;> simp [h, addItems]
  have stacked : (p.stack.filterMap fun c => (p.placed c.key).filter fun x => x.2.eligible g) =
      (p.stack.filterMap fun c => p.placed c.key).filter fun x => x.2.eligible g := by
    rw [List.filter_filterMap]
  rw [Part.regainPlan, first, stacked, List.foldl_append, List.foldl_append, ← addItems_eq_foldl, ← addItems_eq_foldl,
    ← addItems_eq_foldl]
  rfl

/-! ## The drop -/

/-- The part when a record has left CONNECTED, if it was in it (R132, step 1). -/
def Part.offline (p : Part) (k : RecId) (r : RcuId) : Part :=
  if (p.call k).state = .connected then p.leaveConnected k r else p

/-- R127: what leaving CONNECTED leaves of a panel record and the Voice Switch. -/
theorem Part.leaveConnected_facts (p : Part) (d : Side) (r : RcuId) :
    let q := p.leaveConnected d.record r
    q.voice d = none ∧ q.voice d.other = p.voice d.other ∧
      q.call d.record = { p.call d.record with fadeCount := 0, fading := false } ∧
      (∀ k, k ≠ d.record → q.call k = p.call k) ∧ q.table = p.table ∧ q.stack = p.stack := by
  have side : p.leaveConnected d.record r = ((p.setVoice d none).endContinuous r).modCall d.record fun c =>
      { c with fadeCount := 0, fading := false } := by cases d <;> rfl
  have voice : ∀ d', ((p.setVoice d none).endContinuous r).voice d' = (p.setVoice d none).voice d' := by
    intro d'
    cases d' <;> simp [Part.voice]
  simp only [side]
  refine ⟨?_, ?_, ?_, fun k ne => ?_, ?_, ?_⟩
  · rw [Part.voice_modCall, voice, Part.voice_setVoice_self]
  · rw [Part.voice_modCall, voice, Part.voice_setVoice_other]
  · simp
  · rw [Part.call_modCall_ne _ _ _ _ ne, Part.call_endContinuous, Part.call_setVoice]
  · simp
  · simp

theorem Part.offline_facts (p : Part) (d : Side) (r : RcuId) :
    let q := p.offline d.record r
    let connected := (p.call d.record).state = .connected
    (connected → q.voice d = none) ∧ q.voice d.other = p.voice d.other ∧
      q.call d.record = { p.call d.record with
        fadeCount := if connected then 0 else (p.call d.record).fadeCount,
        fading := if connected then false else (p.call d.record).fading } ∧
      (∀ k, k ≠ d.record → q.call k = p.call k) ∧ q.table = p.table ∧ q.stack = p.stack := by
  by_cases connected : (p.call d.record).state = .connected
  · obtain ⟨voice, facts⟩ := p.leaveConnected_facts d r
    have left : p.offline d.record r = p.leaveConnected d.record r := if_pos connected
    rw [left]
    dsimp only
    rw [if_pos connected, if_pos connected]
    exact ⟨fun _ => voice, facts⟩
  · have same : p.offline d.record r = p := if_neg connected
    rw [same]
    dsimp only
    rw [if_neg connected, if_neg connected]
    exact ⟨fun h => absurd h connected, rfl, rfl, fun _ _ => rfl, rfl, rfl⟩

/-- Settles O27: a drop leaves CONNECTED, writes the record and builds its regain plan. -/
theorem dropsStartARegain : Obligations.DropsStartARegain := by
  refine ⟨fun g p d r => ?_, fun g p dropped => ?_⟩
  · intro q c plan
    obtain ⟨silent, other, record, others, table, stack⟩ := p.offline_facts d r
    generalize hoff : p.offline d.record r = off at *
    have q_eq : q = (off.modCall d.record (CallRec.dropped g)).buildRegainPlan g d.record := by rw [← hoff]; rfl
    have regain : (off.modCall d.record (CallRec.dropped g)).regainPlan g ((c.attempt.bind (·.cell)).map (·.key)) = plan :=
      Part.regainPlan_congr (by simpa using table) (by simpa using stack) g _
    have entries := Part.entries_of_prune (p := p) (q := q) (u := (off.modCall d.record (CallRec.dropped g)).modCall
      d.record fun x => { x with plan := _, cursor := 0, blindTried := false, dialled := false, droppedKey := none })
      (by simp [table]) (by rw [q_eq]; rfl)
    have voice : q.voice = off.voice := by
      rw [q_eq]
      exact funext fun d' => by simp [Part.buildRegainPlan]
    refine ⟨fun connected => voice ▸ silent connected, voice ▸ other, ?_, fun i cell known slot => ?_, ?_, ?_, entries⟩
    · have key : ((off.modCall d.record (CallRec.dropped g)).call d.record).droppedKey =
          (c.attempt.bind (·.cell)).map (·.key) := by
        rw [Part.call_modCall_self, record]
        rfl
      rw [q_eq, Part.buildRegainPlan, key, regain, Part.call_prune, Part.call_modCall_self, Part.call_modCall_self, record]
      rfl
    · simp only [plan, known, Option.map_some]
      exact Part.regainPlan_head g slot
    · rw [q_eq, Part.buildRegainPlan, Part.call_prune, Part.call_modCall_ne _ _ _ _ (Side.other_record_ne d),
        Part.call_modCall_ne _ _ _ _ (Side.other_record_ne d), others _ (Side.other_record_ne d)]
    · rw [q_eq]
      simp [Part.buildRegainPlan, stack]
  · intro placed first stacked ranked plan
    refine ⟨?_, List.length_take_le _ _, p.regainPlan_nodup g dropped⟩
    have stackItems : ((p.stack.filterMap fun c => p.placed c.key).filter fun x => x.2.eligible g).map (planItem g) =
        stacked := List.map_congr_left fun x hx => planItem_eligible (List.mem_filter.mp hx).2
    have rankItems : (p.ranking g).map (planItem g) = ranked :=
      List.map_congr_left fun x hx => planItem_eligible ((p.mem_ranking g x).mp hx).2
    rw [← stackItems, ← rankItems]
    exact p.regainPlan_eq_foldl g dropped

end Sys2Proof.Machine

/-! # Losses in IN_CALL -/

namespace Sys2Proof.Machine

set_option Elab.async false

/-! ## The two notices -/

theorem exec_linkLost {s : State} {r : RcuId} (hears : s.hears r) :
    exec (.linkLost r) s = .next (s.conclude (s.part.takeLoss s.settings false r)) :=
  congrArg Host.Outcome.next (State.receivePlain_notice (n := .linkLost) hears (by decide) rfl)

theorem exec_farRelease {s : State} {r : RcuId} (hears : s.hears r) :
    exec (.farRelease r) s = .next (s.conclude (s.part.takeLoss s.settings true r)) :=
  congrArg Host.Outcome.next (State.receivePlain_notice (n := .farRelease) hears (by decide) rfl)

/-! ## What the loss leaves in the slot -/

/-- The part when the loss has emptied the slot of an order that ended with it (R66). -/
def Part.afterLoss (p : Part) (r : RcuId) (slot : Option Pending) : Part :=
  (p.leaveInCall r).modRadio r fun x => { x with slot := slot }

@[simp] theorem Part.slot_leaveInCall (p : Part) (r : RcuId) : ((p.leaveInCall r).radio r).slot = (p.radio r).slot := by
  unfold Part.leaveInCall Part.endContinuous
  split <;> simp [Part.abandonMeasurement]

theorem Part.afterLoss_same {p : Part} {r : RcuId} {slot : Option Pending} (same : (p.radio r).slot = slot) :
    p.afterLoss r slot = p.leaveInCall r :=
  Part.modRadio_same (by rw [← same, ← Part.slot_leaveInCall])

@[simp] theorem Part.call_afterLoss (p : Part) (r : RcuId) (slot : Option Pending) (k : RecId) :
    (p.afterLoss r slot).call k = p.call k := by simp [Part.afterLoss]

/-- R66: the record that holds the RCU is told of the loss. -/
def Part.tellLoss (g : Settings) (far : Bool) (r : RcuId) (holder : Option RecId) (p : Part) : Part :=
  match holder with
  | some k => if far then p.recordFarRelease g k r else p.recordLinkLost g k r
  | none => p

theorem Part.takeLoss_notice {p : Part} {r : RcuId} {slot : Option Pending} (inCall : (p.radio r).condition = .inCall)
    (notice : (p.radio r).slot.elim (none, .notice) Pending.atLoss = (slot, .notice)) (g : Settings) (far : Bool) :
    p.takeLoss g far r = (p.afterLoss r slot).tellLoss g far r ((p.radio r).holder.bind Holder.record) := by
  simp only [Part.takeLoss, inCall, if_true]
  cases hs : (p.radio r).slot with
  | none =>
    obtain rfl : none = slot := by simpa [hs] using notice
    cases (p.radio r).holder.bind Holder.record <;> rfl
  | some q =>
    have left : q.atLoss = (slot, .notice) := by simpa [hs] using notice
    simp only [left]
    cases (p.radio r).holder.bind Holder.record <;> rfl

/-- R66: a RELEASE of the record is done by the loss. -/
theorem Part.takeLoss_released {p : Part} {r : RcuId} {q : Pending} {k : RecId}
    (inCall : (p.radio r).condition = .inCall) (slot : (p.radio r).slot = some q) (order : q.order = .release)
    (issuer : q.issuer = .holder) (live : q.phase ≠ .retired) (held : (p.radio r).holder = some k.holder)
    (g : Settings) (far : Bool) :
    p.takeLoss g far r = (p.afterLoss r none).recordTakes g k r .release .done := by
  have done : q.atLoss = (none, .releaseDone) := by simp [Pending.atLoss, live, order, issuer]
  simp only [Part.takeLoss, inCall, if_true, slot, done, Part.holderRecord held]
  rfl

/-! ## What the loss does to a record -/

theorem Part.modCall_congr {p : Part} {k : RecId} {f f' : CallRec → CallRec} (h : f (p.call k) = f' (p.call k)) :
    p.modCall k f = p.modCall k f' := by
  unfold Part.modCall
  rw [h]

/-- R132: LINK_LOST at a panel record. -/
theorem Part.recordLinkLost_panel (g : Settings) (p : Part) (d : Side) (r : RcuId) : let st := (p.call d.record).state
    (st = .ringing ∨ st = .announcing ∨ st = .connected → p.recordLinkLost g d.record r = p.drop g d.record r) ∧
    (st ≠ .ringing → st ≠ .announcing → st ≠ .connected → p.recordLinkLost g d.record r = p) := by
  have side : d.record.side = some d := by cases d <;> rfl
  refine ⟨?_, fun ringing announcing connected => ?_⟩
  · rintro (h | h | h) <;> simp only [Part.recordLinkLost, h, side]
  · unfold Part.recordLinkLost
    cases h : (p.call d.record).state <;> simp_all

/-- R118: LINK_LOST at the TEST record. -/
theorem Part.recordLinkLost_test (g : Settings) (p : Part) (r : RcuId) : let st := (p.call .test).state
    (st = .ringing → p.recordLinkLost g .test r = p.failTry .test .linkLost) ∧
    (st = .announcing → p.recordLinkLost g .test r = p.noteEnds .test r false) ∧
    (st ≠ .ringing → st ≠ .announcing → p.recordLinkLost g .test r = p) := by
  refine ⟨fun h => ?_, fun h => ?_, fun ringing announcing => ?_⟩
  · simp only [Part.recordLinkLost, h]
    rfl
  · simp only [Part.recordLinkLost, h]
    rfl
  · unfold Part.recordLinkLost
    cases h : (p.call .test).state <;> simp_all [RecId.side]

theorem Part.recordFarRelease_connected {p : Part} {k : RecId} (connected : (p.call k).state = .connected) (g : Settings)
    (r : RcuId) : p.recordFarRelease g k r =
      ((p.leaveConnected k r).modCall k fun c => { c with lastCause := .noCause }).enterClearing k := by
  simp only [Part.recordFarRelease, connected]

theorem Part.recordFarRelease_other {p : Part} {k : RecId} (other : (p.call k).state ≠ .connected) (g : Settings)
    (r : RcuId) : p.recordFarRelease g k r = p.recordLinkLost g k r := by
  unfold Part.recordFarRelease
  split
  · next connected => exact absurd connected other
  · rfl

/-- R111: a RELEASE that is done reaches a DIALLING record, and no other. -/
theorem Part.recordTakes_released {p : Part} {k : RecId} (g : Settings) (r : RcuId) :
    p.recordTakes g k r .release .done = if (p.call k).state = .dialling then p.releaseDone k else p := by
  unfold Part.recordTakes
  cases (p.call k).state <;> rfl

/-- Settles O28: by what stands in the slot, and then by the record's state. -/
theorem lossesReachTheRecord : Obligations.LossesReachTheRecord := by
  intro s r hears inCall left emptied lost released
  have linkLost : ∀ p, s.part.takeLoss s.settings false r = p → lost p :=
    fun p h => (exec_linkLost hears).trans (by rw [h])
  have farRelease : ∀ p, s.part.takeLoss s.settings true r = p → released p :=
    fun p h => (exec_farRelease hears).trans (by rw [h])
  refine ⟨fun rest slot => ?_, fun k q slot order issuer live held => ?_⟩
  · obtain ⟨kept, notice, rest_eq⟩ : ∃ kept,
        (s.part.radio r).slot.elim (none, .notice) Pending.atLoss = (kept, .notice) ∧
          rest = s.part.afterLoss r kept := by
      rcases slot with ⟨empty, rfl⟩ | ⟨q, slot, retired, rfl⟩ | ⟨q, slot, live, ended, rfl⟩
      · exact ⟨none, by rw [empty]; rfl, (Part.afterLoss_same empty).symm⟩
      · exact ⟨some q, by simp [slot, Pending.atLoss, retired], (Part.afterLoss_same slot).symm⟩
      · refine ⟨none, ?_, rfl⟩
        rcases ended with ⟨note, order⟩ | ⟨order, issuer⟩
        · simp [slot, Pending.atLoss, live, order]
        · simp [slot, Pending.atLoss, live, order, issuer]
    have taken := Part.takeLoss_notice inCall notice s.settings
    have call : rest.call = s.part.call := funext fun k => by simp [rest_eq]
    rw [← rest_eq] at taken
    refine ⟨fun d held => ?_, fun held => ?_, fun none => ?_⟩
    · rw [Part.holderRecord held] at taken
      obtain ⟨drops, stays⟩ := rest.recordLinkLost_panel s.settings d r
      rw [call] at drops stays
      refine ⟨fun h => linkLost _ ((taken false).trans (drops h)), fun h => farRelease _ ((taken true).trans ?_),
        fun h => farRelease _ ((taken true).trans ?_), fun ringing announcing connected =>
          ⟨linkLost _ ((taken false).trans (stays ringing announcing connected)),
            farRelease _ ((taken true).trans ?_)⟩⟩
      · exact Part.recordFarRelease_connected (by rw [call]; exact h) s.settings r
      · have other : (rest.call d.record).state ≠ .connected := by
          rw [call]
          rcases h with h | h <;> rw [h] <;> decide
        exact (Part.recordFarRelease_other other s.settings r).trans (drops (h.imp id .inl))
      · exact (Part.recordFarRelease_other (by rw [call]; exact connected) s.settings r).trans
          (stays ringing announcing connected)
    · have held' : (s.part.radio r).holder = some (RecId.holder .test) := held
      rw [Part.holderRecord held'] at taken
      obtain ⟨fails, ends, stays⟩ := rest.recordLinkLost_test s.settings r
      rw [call] at fails ends stays
      have far : s.part.test.state ≠ .connected →
          s.part.takeLoss s.settings true r = rest.recordLinkLost s.settings .test r := fun other =>
        (taken true).trans (Part.recordFarRelease_other (by rw [call]; exact other) s.settings r)
      refine ⟨fun h => ⟨linkLost _ ((taken false).trans (fails h)), farRelease _ ((far ?_).trans (fails h))⟩,
        fun h => ⟨linkLost _ ((taken false).trans (ends h)), farRelease _ ((far ?_).trans (ends h))⟩,
        fun ringing announcing connected => ⟨linkLost _ ((taken false).trans (stays ringing announcing)),
          farRelease _ ((far connected).trans (stays ringing announcing))⟩⟩
      · rw [h]; decide
      · rw [h]; decide
    · rw [none] at taken
      exact ⟨linkLost _ (taken false), farRelease _ (taken true)⟩
  · intro c
    have taken := Part.takeLoss_released inCall slot order issuer live held s.settings
    simp only [Part.recordTakes_released, Part.call_afterLoss] at taken
    have both : ∀ p, (∀ far, s.part.takeLoss s.settings far r = p) → lost p ∧ released p :=
      fun p h => ⟨linkLost p (h false), farRelease p (h true)⟩
    refine ⟨fun other => both _ fun far => (taken far).trans (if_neg other), fun a dialling attempt =>
      ⟨fun ops failed => both _ fun far => ?_, fun last => both _ fun far => ?_⟩⟩
    all_goals rw [taken far, if_pos dialling]
    · exact Part.releaseDone_turns (by simpa using dialling) (by simpa using attempt) ops failed
    · rw [Part.releaseDone_fails (by simpa using dialling) (by simpa using attempt) last]
      exact Part.modCall_congr rfl

end Sys2Proof.Machine

/-! # Panel commands and the ring timer -/

namespace Sys2Proof.Machine

set_option Elab.async false

/-! ## A panel command is taken -/

/-- R154: what a panel command of a port leaves. -/
def State.panelTaken (s : State) (d : Side) (code : Byte) (result : CommandResult) (effect : Part) : State :=
  ((s.setTx d.port (Transaction.wrote 3 [code])).conclude effect).modPanel d (PanelPort.recordCommand code result)

theorem State.panelItem_taken {s : State} {d : Side} (start : s.atStart d.port) (code : Byte) :
    s.writeItem d.port 3 [code] =
      s.panelTaken d code (s.part.panelResult d.record code) (s.part.panelEffect d.record code s.settings) := by
  have written := s.writeItem_taken d.port 3 [code] start (by decide) (by cases d <;> rfl) (by simp)
  have running : (s.setTx d.port (Transaction.wrote 3 [code])).isHeld = false := by
    cases d <;> exact start.1
  have command : s.writeItem d.port 3 [code] = (s.setTx d.port (Transaction.wrote 3 [code])).panelCommand d code := by
    rw [written]
    cases d <;> rfl
  rw [command, State.panelCommand, State.event_running _ _ running]
  cases d <;> rfl

theorem Part.panelEffect_refused {p : Part} {k : RecId} {code : Byte} (refused : p.panelResult k code ≠ .accepted)
    (g : Settings) : p.panelEffect k code g = p := by
  unfold Part.panelEffect
  split
  · next accepted _ => exact absurd accepted refused
  · next accepted _ => exact absurd accepted refused
  · next accepted _ => exact absurd accepted refused
  · rfl

theorem State.panelItem_refused {s : State} {d : Side} (start : s.atStart d.port) {code : Byte} {result : CommandResult}
    (answer : s.part.panelResult d.record code = result) (refused : result ≠ .accepted) :
    s.writeItem d.port 3 [code] = s.panelTaken d code result s.part := by
  rw [State.panelItem_taken start, Part.panelEffect_refused (answer ▸ refused), answer]

theorem State.panelItem_accepted {s : State} {d : Side} (start : s.atStart d.port) {code : Byte} {effect : Part}
    (answer : s.part.panelResult d.record code = .accepted) (acts : s.part.panelEffect d.record code s.settings = effect) :
    s.writeItem d.port 3 [code] = s.panelTaken d code .accepted effect := by
  rw [State.panelItem_taken start, answer, acts]

/-! ## The three commands -/

theorem Part.panelEffect_call {p : Part} {k : RecId} (idle : (p.call k).state = .idle) (g : Settings) :
    p.panelResult k 1 = .accepted ∧ p.panelEffect k 1 g = p.placeCall g k := by
  have accepted : p.panelResult k 1 = .accepted := if_pos idle
  refine ⟨accepted, ?_⟩
  simp only [Part.panelEffect, accepted]
  rfl

theorem Part.panelEffect_hangup {p : Part} {k : RecId} (accepted : p.hangupResult k = .accepted) (g : Settings) :
    p.panelResult k 2 = .accepted ∧ p.panelEffect k 2 g = p.hangUp k := by
  have answer : p.panelResult k 2 = .accepted := accepted
  refine ⟨answer, ?_⟩
  simp only [Part.panelEffect, answer]
  rfl

theorem Part.panelEffect_answer {p : Part} {k : RecId} (ringing : (p.call k).state = .alertingIn)
    (free : (p.call k).answerInHand = false) (g : Settings) :
    p.panelResult k 3 = .accepted ∧ p.panelEffect k 3 g = p.answerCall k := by
  have answer : p.panelResult k 3 = .accepted := if_pos ⟨ringing, free⟩
  refine ⟨answer, ?_⟩
  simp only [Part.panelEffect, answer]
  rfl

theorem Part.panelResult_unknown (p : Part) (k : RecId) {code : Byte} (call : code ≠ 1) (hangup : code ≠ 2)
    (answer : code ≠ 3) : p.panelResult k code = .unknown := by
  unfold Part.panelResult
  split
  · next h => exact absurd (BitVec.eq_of_toNat_eq h) call
  · next h => exact absurd (BitVec.eq_of_toNat_eq h) hangup
  · next h => exact absurd (BitVec.eq_of_toNat_eq h) answer
  · rfl

theorem Part.onRcu_some {p : Part} {k : RecId} {r : RcuId} (rcu : p.callRcu k = some r) (f : RcuId → Part → Part) :
    p.onRcu k f = f r p := by
  rw [Part.onRcu, rcu]

theorem Part.onRcu_none {p : Part} {k : RecId} (rcu : p.callRcu k = none) (f : RcuId → Part → Part) :
    p.onRcu k f = p := by
  rw [Part.onRcu, rcu]

/-- Settles O29, command by command and state by state. -/
theorem panelCommandsActOnTheRecord : Obligations.PanelCommandsActOnTheRecord := by
  intro s d start k c taken
  have next : ∀ (code : Byte) (result : CommandResult) (effect : Part),
      s.writeItem d.port 3 [code] = s.panelTaken d code result effect →
        Host.Outcome.next (s.writeItem d.port 3 [code]) = taken code result effect :=
    fun code result effect h => congrArg Host.Outcome.next h
  have hangup : ∀ effect, s.part.hangupResult k = .accepted → s.part.hangUp k = effect →
      exec (.hangup d) s = taken 2 .accepted effect := by
    intro effect accepted acts
    obtain ⟨answer, hangs⟩ := Part.panelEffect_hangup accepted s.settings
    exact next 2 _ _ (State.panelItem_accepted start answer (hangs.trans acts))
  refine ⟨fun idle => ?_, fun busy => ?_, fun queued => ?_, fun working => ?_, fun r connected rcu => ?_,
    fun refused => ?_, fun code call hangup answer => ?_⟩
  · obtain ⟨answer, acts⟩ := Part.panelEffect_call idle s.settings
    exact next 1 _ _ (State.panelItem_accepted start answer acts)
  · exact next 1 _ _ (State.panelItem_refused start (if_neg busy) (by decide))
  · have state : (s.part.call k).state = .queued := queued
    exact hangup _ (by rw [Part.hangupResult, state]) (by rw [Part.hangUp, state])
  · have state : (s.part.call k).state = c.state := rfl
    refine hangup _ ?_ ?_
    · rcases working with h | h | h | h | h <;> rw [Part.hangupResult, state, h]
    · rcases working with h | h | h | h | h <;> rw [Part.hangUp, state, h]
  · have state : (s.part.call k).state = .connected := connected
    refine hangup _ (by rw [Part.hangupResult, state]) ?_
    rw [Part.hangUp, state, Part.onRcu_some rcu]
  · have state : (s.part.call k).state = c.state := rfl
    refine next 2 _ _ (State.panelItem_refused start (result := .refusedState) ?_ (by decide))
    have answer : s.part.hangupResult k = .refusedState := by
      rcases refused with h | h | h <;> rw [Part.hangupResult, state, h]
    exact answer
  · exact next code _ _ (State.panelItem_refused start (s.part.panelResult_unknown k call hangup answer) (by decide))

theorem Part.ringTimeout_eq {p : Part} {k : RecId} {r : RcuId} (rcu : p.callRcu k = some r) :
    p.ringTimeout k = ((p.modCall k CallRec.ringExpired).offer r .reject).enterClearing k := by
  have rcu' : (p.modCall k CallRec.ringExpired).callRcu k = some r := (Part.rcuOf_modCall p k _ _).trans rcu
  rw [Part.ringTimeout, Part.onRcu_some rcu']

/-- Settles O30: the ANSWER of a call-back, and the end of its ringing. -/
theorem callBacksRing : Obligations.CallBacksRing := by
  refine fun s d => ⟨fun start => ?_, fun r rcu running ringing timer => ?_⟩
  · intro taken inHand
    have next : ∀ (result : CommandResult) (effect : Part),
        s.writeItem d.port 3 [3] = s.panelTaken d 3 result effect → exec (.answer d) s = taken result effect :=
      fun result effect h => congrArg Host.Outcome.next h
    refine ⟨fun ringing free => ?_, fun refused => ?_⟩
    · obtain ⟨answer, acts⟩ := Part.panelEffect_answer ringing free s.settings
      have rcus : inHand.callRcu d.record = s.part.callRcu d.record := Part.rcuOf_modCall s.part d.record _ _
      refine ⟨fun r rcu => next _ _ (State.panelItem_accepted start answer (acts.trans ?_)),
        fun none => next _ _ (State.panelItem_accepted start answer (acts.trans ?_))⟩
      · exact Part.onRcu_some (rcus.trans rcu) _
      · exact Part.onRcu_none (rcus.trans none) _
    · refine next _ _ (State.panelItem_refused start (if_neg ?_) (by decide))
      rintro ⟨ringing, free⟩
      rcases refused with other | taken
      · exact other ringing
      · rw [free] at taken
        cases taken
  · have rings : (s.part.call d.record).rings = true := by simp [CallRec.rings, ringing, timer]
    refine congrArg Host.Outcome.next ((State.eventIf_taken running _ rings).trans ?_)
    rw [Part.ringTimeout_eq rcu]
    rfl

end Sys2Proof.Machine

/-! # Entry to CLEARING -/

namespace Sys2Proof.Machine

set_option Elab.async false

/-! ## What clearing does to an RCU -/

/-- R53: the sweep goes, and with it the measurement. -/
def Radio.swept (x : Radio) : Radio :=
  { x with sweep := none, gate := GateCounter.cleared, measurement := Measurement.cleared }

/-- R53: a CALL sweep ends with its record's work. -/
def Radio.dropCallSweep (k : RecId) (x : Radio) : Radio :=
  if x.sweep.any (·.kind == .call k) then x.unbegin.swept else x

@[simp] theorem Radio.sweep_unbegin (x : Radio) : x.unbegin.sweep = x.sweep := by
  unfold Radio.unbegin
  split <;> rfl

theorem Part.radio_dropCallSweep (p : Part) (k : RecId) (r : RcuId) :
    (p.dropCallSweep k r).radio r = (p.radio r).dropCallSweep k := by
  unfold Part.dropCallSweep Radio.dropCallSweep
  split
  · next any =>
    have some : ((p.unbeginItem r).radio r).sweep.isSome = true := by
      rw [Part.unbeginItem, Part.radio_modRadio_self, Radio.sweep_unbegin]
      cases hs : (p.radio r).sweep with
      | none => simp [hs] at any
      | some c => rfl
    rw [Part.removeSweep, if_pos some]
    simp [Part.abandonMeasurement, Part.unbeginItem, Radio.swept]
  · rfl

theorem Radio.dropCallSweep_call {x : Radio} {k : RecId} {c : Sweep} (sweep : x.sweep = some c) (kind : c.kind = .call k) :
    x.dropCallSweep k = x.unbegin.swept :=
  if_pos (by simp [sweep, kind])

theorem Radio.dropCallSweep_other {x : Radio} {k : RecId} (other : ∀ c, x.sweep = some c → c.kind ≠ .call k) :
    x.dropCallSweep k = x := by
  refine if_neg ?_
  cases hs : x.sweep with
  | none => simp
  | some c => simpa using other c hs

theorem Radio.unbegin_begun {x : Radio} (begun : x.begunNow = true) : x.unbegin =
    { x with slot := none, tagCounter := if 1 < x.tagCounter then x.tagCounter - 1 else 15,
             txQueue := x.txQueue.dropLast } := by
  rw [Radio.unbegin, if_pos begun]
  rfl

theorem Radio.unbegin_idle {x : Radio} (idle : x.begunNow = false) : x.unbegin = x := by
  rw [Radio.unbegin, idle]
  rfl

theorem Radio.offer_busy {x : Radio} {q : Pending} (slot : x.slot = some q) (o : Order) : x.offer o = x := by
  simp [Radio.offer, slot]

/-- R121, step 3: a RELEASE or REJECT in the slot runs on. -/
theorem Radio.clear_runsOn {x : Radio} {o : Pending} (slot : x.slot = some o)
    (order : o.order = .release ∨ o.order = .reject) : x.clear = { x with answerTimer := none } := by
  have runs : x.slot.any (·.runsOn) = true := by simpa [slot, Pending.runsOn] using order
  simp only [Radio.clear, runs, if_true]
  rw [Radio.offer_busy (x := { x with answerTimer := none }) slot, ite_self]

/-- R121, step 3: any other order in the slot is abandoned. -/
theorem Radio.clear_abandons {x : Radio} {o : Pending} (slot : x.slot = some o) (release : o.order ≠ .release)
    (reject : o.order ≠ .reject) : x.clear = x.abandon := by
  have stops : x.slot.any (·.runsOn) = false := by simp [slot, Pending.runsOn, release, reject]
  obtain ⟨q, busy⟩ : ∃ q, x.abandon.slot = some q := by
    unfold Radio.abandon Radio.retire
    rw [slot]
    dsimp only
    split
    · exact ⟨_, rfl⟩
    · exact ⟨o, slot⟩
  simp only [Radio.clear, stops, Bool.false_eq_true, if_false]
  rw [Radio.offer_busy busy, ite_self]

theorem Radio.abandon_empty {x : Radio} (empty : x.slot = none) : x.abandon = { x with answerTimer := none } :=
  Radio.abandon_other fun q hq => by rw [empty] at hq; cases hq

/-- R121, step 4: with an EMPTY slot a call is released. -/
theorem Radio.clear_empty {x : Radio} (empty : x.slot = none) : x.clear =
    if x.condition = .inCall then Radio.send .release .holder { x with answerTimer := none }
    else { x with answerTimer := none } := by
  have stops : x.slot.any (·.runsOn) = false := by simp [empty]
  simp only [Radio.clear, stops, Bool.false_eq_true, if_false, Radio.abandon_empty empty]
  split
  · next inCall =>
    rw [Radio.offer_eq, if_pos ⟨empty, by rw [inCall]; rfl⟩]
  · rfl

theorem Radio.clear_keeps (x : Radio) : x.clear.sweep = x.sweep ∧ x.clear.measurement = x.measurement ∧
    x.clear.gate = x.gate := by
  cases slot : x.slot with
  | none =>
    rw [Radio.clear_empty slot]
    split <;> exact ⟨rfl, rfl, rfl⟩
  | some o =>
    by_cases order : o.order = .release ∨ o.order = .reject
    · rw [Radio.clear_runsOn slot order]
      exact ⟨rfl, rfl, rfl⟩
    · rw [Radio.clear_abandons slot (fun h => order (.inl h)) (fun h => order (.inr h))]
      unfold Radio.abandon Radio.retire
      rw [slot]
      dsimp only
      split <;> exact ⟨rfl, rfl, rfl⟩

/-! ## The part at the entry to CLEARING -/

@[simp] theorem Part.call_dropCallSweep (p : Part) (k k' : RecId) (r : RcuId) :
    (p.dropCallSweep k r).call k' = p.call k' := by
  unfold Part.dropCallSweep
  split <;> simp

@[simp] theorem Part.table_dropCallSweep (p : Part) (k : RecId) (r : RcuId) :
    (p.dropCallSweep k r).table = p.table := by
  unfold Part.dropCallSweep
  split <;> simp

theorem Part.enterClearing_eq {p : Part} {k : RecId} {r : RcuId} (rcu : p.callRcu k = some r) : p.enterClearing k =
    ((((p.emptyPlan k).modCall k CallRec.toClearing).dropCallSweep k r).modRadio r Radio.clear) := by
  simp only [Part.enterClearing, rcu]

/-- What the entry to CLEARING leaves of the record, the table and the RCU. -/
theorem Part.enterClearing_facts {p : Part} {k : RecId} {r : RcuId} (rcu : p.callRcu k = some r) :
    let q := p.enterClearing k
    q.call k = CallRec.toClearing { p.call k with plan := [] } ∧ q.radio r = ((p.radio r).dropCallSweep k).clear ∧
      (∀ i e, q.entryAt i = some e → p.entryAt i = some e) ∧
      (∀ i e, p.entryAt i = some e → e.age ≠ 15 → q.entryAt i = some e) := by
  dsimp only
  rw [Part.enterClearing_eq rcu]
  refine ⟨by simp [Part.emptyPlan], ?_, Part.entries_of_prune (u := p.modCall k fun c => { c with plan := [] })
    (by simp) (by simp [Part.emptyPlan])⟩
  rw [Part.radio_modRadio_self, Part.radio_dropCallSweep, Part.radio_modCall, Part.emptyPlan, Part.radio_prune,
    Part.radio_modCall]

end Sys2Proof.Machine

/-! # Leaving CLEARING -/

namespace Sys2Proof.Machine

set_option Elab.async false

/-! ## Handing an RCU over -/

theorem Part.handOver_given {p : Part} {giving receiving : Holder} {r : RcuId} (held : (p.radio r).holder = some giving)
    (without : p.rcuOf receiving = none) (out : p.waits receiving = false) :
    p.handOver giving receiving r = (p.holderLeaves r).assign r receiving := by
  rw [Part.handOver, if_pos ⟨held, without, out⟩]

theorem Part.holder_assign (p : Part) (r : RcuId) (h : Holder) : ((p.assign r h).radio r).holder = some h := by
  rw [Part.assign, Part.radio_modRadio_self, Radio.holder_bringUp]

theorem Part.radio_assign_other (p : Part) (r : RcuId) (h : Holder) : (p.assign r h).radio r.other = p.radio r.other :=
  Part.radio_modRadio_other _ _ _

theorem Part.radio_holderLeaves_other (p : Part) (r : RcuId) : (p.holderLeaves r).radio r.other = p.radio r.other := by
  rw [Part.holderLeaves, Part.radio_modRadio_other, Part.radio_endContinuous_ne _ (RcuId.other_ne r), Part.abandon,
    Part.radio_modRadio_other]

theorem Part.rcuOf_eq_some {p : Part} {h : Holder} {r : RcuId} (held : (p.radio r).holder = some h)
    (other : (p.radio r.other).holder ≠ some h) : p.rcuOf h = some r := by
  cases r
  · exact if_pos held
  · exact (if_neg other).trans (if_pos held)

theorem Part.holder_releaseRcu (p : Part) (r : RcuId) : ((p.releaseRcu r).radio r).holder = none := by
  simp [Part.releaseRcu]

@[simp] theorem Part.call_handOver (p : Part) (giving receiving : Holder) (r : RcuId) (k : RecId) :
    (p.handOver giving receiving r).call k = p.call k := by
  unfold Part.handOver
  split
  · simp
  · split <;> simp

@[simp] theorem Part.call_closeWindow (p : Part) (k : RecId) : p.closeWindow.call k = p.call k := by
  unfold Part.closeWindow
  split
  · rfl
  · dsimp only
    split
    · exact Part.call_withWindow p none k
    all_goals
      split
      · rw [Part.call_releaseRcu, Part.call_withWindow]
      · exact Part.call_withWindow p none k

@[simp] theorem Part.call_openWindow (g : Settings) (p : Part) (d : Side) (r : RcuId) (c : CarrierKey) (k : RecId) :
    (p.openWindow g d r c).call k = p.call k := by
  unfold Part.openWindow
  dsimp only
  split
  · rw [Part.call_withWindow, Part.call_handOver, Part.call_closeWindow]
  · rw [Part.call_handOver, Part.call_closeWindow]

@[simp] theorem Part.call_returnToWindow (p : Part) (d : Side) (r : RcuId) (k : RecId) :
    (p.returnToWindow d r).call k = p.call k :=
  (Part.call_withWindow _ _ k).trans (p.call_handOver _ _ r k)

@[simp] theorem Part.call_giveUpRcu (p : Part) (k : RecId) (d : Option Side) (r : RcuId) (k' : RecId) :
    (p.giveUpRcu k d r).call k' = p.call k' := by
  unfold Part.giveUpRcu
  split
  · split <;> simp
  · simp

@[simp] theorem Part.call_campChoice (p : Part) (g : Settings) (k : RecId) : (p.campChoice g).call k = p.call k := by
  rw [Part.campChoice, Part.call_prune]
  cases k <;> rfl

@[simp] theorem Part.call_passOn (g : Settings) (p : Part) (k : RecId) (r : RcuId) (k' : RecId) :
    (p.passOn g k r).call k' = p.call k' := by
  unfold Part.passOn
  split
  · dsimp only
    split <;> simp
  · simp

/-! ## Where the RCU goes -/

/-- R136, case 1: a window is asked for, and the camp choice finds it a key. -/
def Part.camps (g : Settings) (k : RecId) (p : Part) : Prop :=
  k ≠ .test ∧ (p.call k).fullConnection = true ∧ 0 < g.callbackWindow ∧ p.power.level ≠ .shed ∧
    (p.campChoice g).stack ≠ []

theorem Part.wantsWindow_iff (g : Settings) (p : Part) (k : RecId) : p.wantsWindow g k = true ↔
    k ≠ .test ∧ (p.call k).fullConnection = true ∧ 0 < g.callbackWindow ∧ p.power.level ≠ .shed := by
  cases k <;> simp [Part.wantsWindow, RecId.side, and_assoc]

theorem Part.passOn_camps {g : Settings} {p : Part} {k : RecId} (camps : p.camps g k) (r : RcuId) :
    ∃ d cell, k = d.record ∧ (p.campChoice g).stack.head? = some cell ∧
      p.passOn g k r = (p.campChoice g).openWindow g d r cell := by
  obtain ⟨panel, full, window, level, stack⟩ := camps
  have wants := (p.wantsWindow_iff g k).mpr ⟨panel, full, window, level⟩
  obtain ⟨cell, rest, choice⟩ := List.exists_cons_of_ne_nil stack
  obtain ⟨d, rfl⟩ : ∃ d : Side, k = d.record := by
    cases k
    · exact ⟨.a, rfl⟩
    · exact ⟨.b, rfl⟩
    · exact absurd rfl panel
  refine ⟨d, cell, rfl, by rw [choice]; rfl, ?_⟩
  have side : d.record.side = some d := by cases d <;> rfl
  simp only [Part.passOn, wants, side, choice]

/-- R136, cases 2 and 3: the RCU is given up. A camp choice that found no key has only popped the stack. -/
theorem Part.passOn_gives {g : Settings} {p : Part} {k : RecId} (stays : ¬ p.camps g k) (r : RcuId) :
    ∃ u : Part, p.passOn g k r = u.giveUpRcu k k.side r ∧ u.radio = p.radio ∧ u.window = p.window ∧
      u.claims = p.claims ∧ u.call = p.call := by
  by_cases wants : p.wantsWindow g k = true
  · have empty : (p.campChoice g).stack = [] := by
      by_contra stack
      obtain ⟨panel, full, window, level⟩ := (p.wantsWindow_iff g k).mp wants
      exact stays ⟨panel, full, window, level, stack⟩
    refine ⟨p.campChoice g, ?_, funext fun r => by simp, rfl, rfl, funext fun k => by simp⟩
    have panel := ((p.wantsWindow_iff g k).mp wants).1
    cases k
    · simp only [Part.passOn, wants, RecId.side, empty]
    · simp only [Part.passOn, wants, RecId.side, empty]
    · exact absurd rfl panel
  · have without : p.wantsWindow g k = false := by simpa using wants
    exact ⟨p, by simp only [Part.passOn, without], rfl, rfl, rfl, rfl⟩

/-! ## The windows -/

theorem Part.closeWindow_lent {p : Part} (lent : ∀ w, p.window = some w → ∃ d, w.state = .lent d) :
    p.closeWindow = { p with window := none } := by
  unfold Part.closeWindow
  split
  · next none => rw [← none]
  · next w hw =>
    obtain ⟨d, state⟩ := lent w hw
    simp only [state]

theorem Part.closeWindow_open {p : Part} {w : Window} (window : p.window = some w)
    (state : w.state = .camping ∨ w.state = .camped) : p.closeWindow =
      match p.rcuOf .window with
      | some r => ({ p with window := none } : Part).releaseRcu r
      | none => { p with window := none } := by
  simp only [Part.closeWindow, window]
  rcases state with state | state <;> simp only [state] <;> rfl

/-- R138: a window that lends its RCU, or that gives its own back, leaves the way for a new one. -/
theorem Part.closeWindow_free {p : Part} {r : RcuId}
    (free : ((∀ w, p.window = some w → ∃ d, w.state = .lent d) ∧ p.rcuOf .window = none) ∨
      (∃ w, p.window = some w ∧ (w.state = .camping ∨ w.state = .camped) ∧ p.rcuOf .window = some r.other ∧
        (p.radio r).holder ≠ some .window)) :
    p.closeWindow.radio r = p.radio r ∧ (p.closeWindow.radio r.other).holder ≠ some .window ∧
      p.closeWindow.claims = p.claims := by
  rcases free with ⟨lent, without⟩ | ⟨w, window, state, rcu, -⟩
  · rw [Part.closeWindow_lent lent]
    exact ⟨Part.radio_withWindow p none r, Part.radio_withWindow p none r.other ▸ (p.rcuOf_eq_none _).mp without r.other,
      rfl⟩
  · rw [Part.closeWindow_open window state, rcu]
    refine ⟨?_, ?_, ?_⟩
    · rw [Part.radio_releaseRcu_ne _ (RcuId.other_ne r).symm, Part.radio_withWindow]
    · rw [Part.holder_releaseRcu]
      exact nofun
    · simp

/-- R136, R138: the RCU passes to a window that has none. -/
theorem Part.givenToWindow {p : Part} {r : RcuId} {h : Holder} (held : (p.radio r).holder = some h) (window : h ≠ .window)
    (other : (p.radio r.other).holder ≠ some .window) (out : p.waits .window = false) :
    let q := p.handOver h .window r
    (q.radio r).holder = some .window ∧ q.radio r.other = p.radio r.other ∧ q.rcuOf .window = some r ∧
      q.window = p.window := by
  have without : p.rcuOf .window = none := by
    rw [Part.rcuOf_eq_none]
    intro r'
    rcases RcuId.eq_or_other r r' with rfl | rfl
    · rw [held]
      exact fun same => window (Option.some.inj same)
    · exact other
  have kept : ((p.holderLeaves r).assign r .window).radio r.other = p.radio r.other := by
    rw [Part.radio_assign_other, Part.radio_holderLeaves_other]
  dsimp only
  rw [Part.handOver_given held without out]
  exact ⟨Part.holder_assign _ _ _, kept, Part.rcuOf_eq_some (Part.holder_assign _ _ _) (by rw [kept]; exact other),
    by simp⟩

theorem Part.openWindow_facts {p : Part} {d : Side} {r : RcuId} (held : (p.radio r).holder = some d.record.holder)
    (out : p.waits .window = false)
    (free : ((∀ w, p.window = some w → ∃ d, w.state = .lent d) ∧ p.rcuOf .window = none) ∨
      (∃ w, p.window = some w ∧ (w.state = .camping ∨ w.state = .camped) ∧ p.rcuOf .window = some r.other ∧
        (p.radio r).holder ≠ some .window)) (g : Settings) (cell : CarrierKey) :
    let q := p.openWindow g d r cell
    (q.radio r).holder = some .window ∧ (q.radio r.other).holder ≠ some .window ∧
      q.window = some { side := d, sequence := (p.call d.record).sequence, campKey := cell, state := .camping,
                        expiry := g.callbackWindow * 60000000 } := by
  obtain ⟨radio, other, claims⟩ := Part.closeWindow_free free
  have panel : d.record.holder ≠ .window := by cases d <;> decide
  obtain ⟨given, kept, rcu, -⟩ := Part.givenToWindow (p := p.closeWindow) (r := r) (by rw [radio]; exact held) panel other
    (by rw [Part.waits, claims]; exact out)
  simp only [Part.openWindow, rcu, if_true]
  refine ⟨?_, ?_, rfl⟩
  · rw [Part.radio_withWindow]
    exact given
  · rw [Part.radio_withWindow, kept]
    exact other

/-! ## Giving the RCU up -/

/-- R142: after a ring timeout the RCU goes back to the window that lent it. -/
theorem Part.giveUpRcu_returns {p : Part} {d : Side} {r : RcuId} {w : Window}
    (timedOut : (p.call d.record).ringTimedOut = true) (window : p.window = some w) (lent : w.state = .lent d) :
    p.giveUpRcu d.record (some d) r = p.returnToWindow d r := by
  simp only [Part.giveUpRcu, window]
  exact if_pos ⟨timedOut, lent⟩

theorem Part.closeLent_same {p : Part} {k : RecId}
    (other : ∀ d w, k.side = some d → p.window = some w → w.state ≠ .lent d) : p.closeLent k = p := by
  unfold Part.closeLent
  split
  · next w d window side =>
    refine if_neg ?_
    simpa [Window.lentTo] using other d w side window
  · rfl

/-- R143: otherwise it goes to the pool, and a window lent to the record closes. -/
theorem Part.giveUpRcu_releases {p : Part} {k : RecId} {r : RcuId}
    (stays : ∀ d w, k.side = some d → p.window = some w → w.state = .lent d → (p.call k).ringTimedOut = false) :
    p.giveUpRcu k k.side r = (p.closeLent k).releaseRcu r := by
  unfold Part.giveUpRcu
  split
  · next d w side window =>
    refine if_neg ?_
    rintro ⟨timedOut, lent⟩
    rw [stays d w side window lent] at timedOut
    cases timedOut
  · next none =>
    rw [Part.closeLent_same fun d w side window => absurd window (none d w side)]

/-! ## The reactions of a CLEARING record -/

theorem Reaction.clearingRelease_enabled (p : Part) (k : RecId) :
    (Reaction.clearingRelease k).enabled p = true ↔ (p.call k).state = .clearing ∧
      ∃ r, p.callRcu k = some r ∧ (p.radio r).condition = .inCall ∧ (p.radio r).slot = none := by
  simp [Reaction.enabled, Option.any_eq_true, Radio.idleInCall]

theorem Reaction.leaveClearing_enabled (p : Part) (k : RecId) :
    (Reaction.leaveClearing k).enabled p = true ↔ (p.call k).state = .clearing ∧
      ∀ r, p.callRcu k = some r → (p.radio r).slot = none ∧ (p.radio r).condition ≠ .inCall := by
  simp [Reaction.enabled, Option.all_eq_true, Radio.cleared]

theorem Part.leaveClearing_eq {p : Part} {k : RecId} {r : RcuId} (rcu : p.callRcu k = some r) (g : Settings) :
    p.leaveClearing g k = (p.passOn g k r).recordIdle k := by
  simp only [Part.leaveClearing, rcu]

theorem Part.call_recordIdle (p : Part) (k : RecId) :
    (p.recordIdle k).call k = CallRec.toIdle { p.call k with plan := [] } := by
  simp [Part.recordIdle, Part.emptyPlan]

@[simp] theorem Part.window_recordIdle (p : Part) (k : RecId) : (p.recordIdle k).window = p.window := by
  simp [Part.recordIdle, Part.emptyPlan]

@[simp] theorem Part.claims_recordIdle (p : Part) (k : RecId) : (p.recordIdle k).claims = p.claims := by
  simp [Part.recordIdle, Part.emptyPlan]

/-- Settles O31: the entry to CLEARING, its reactions, and the way of the RCU when the record leaves. -/
theorem clearingEndsTheWorkAndTheHold : Obligations.ClearingEndsTheWorkAndTheHold := by
  refine ⟨fun p k r rcu => ?_, fun g p k => ⟨Reaction.clearingRelease_enabled p k, fun r rcu inCall empty => ?_,
    Reaction.leaveClearing_enabled p k, rfl, fun none => ?_⟩, fun g p k r rcu out => ?_⟩
  · intro q
    obtain ⟨record, radio, back, young⟩ := Part.enterClearing_facts rcu
    refine ⟨record, back, young, fun c sweep kind => ?_, fun other => ?_⟩
    · rw [radio, Radio.dropCallSweep_call sweep kind]
      obtain ⟨noSweep, noMeasurement, noGate⟩ := Radio.clear_keeps (p.radio r).unbegin.swept
      refine ⟨by rw [noSweep]; rfl, by rw [noMeasurement]; rfl, by rw [noGate]; rfl, fun begun awake => ?_,
        fun o idle slot issuer live release reject => ?_⟩
      · rw [Radio.unbegin_begun begun, Radio.clear_empty rfl, if_neg]
        · exact ⟨rfl, rfl, rfl⟩
        · simp [awake, Radio.swept]
      · rw [Radio.unbegin_idle idle, Radio.clear_abandons (x := (p.radio r).swept) slot release reject,
          Radio.abandon_live (x := (p.radio r).swept) slot issuer live]
        rfl
    · rw [radio, Radio.dropCallSweep_other other]
      exact ⟨fun o slot order => Radio.clear_runsOn slot order,
        fun o slot release reject => Radio.clear_abandons slot release reject,
        fun empty inCall => by rw [Radio.clear_empty empty, if_pos inCall],
        fun empty outside => by rw [Radio.clear_empty empty, if_neg outside]⟩
  · refine (Part.onRcu_some rcu _).trans (Part.modRadio_congr ?_)
    rw [Radio.offer_eq, if_pos ⟨empty, by rw [inCall]; rfl⟩]
  · have left : p.leaveClearing g k = p.recordIdle k := by simp only [Part.leaveClearing, none]
    intro q
    rw [show q = p.recordIdle k from left]
    exact ⟨by rw [Part.call_recordIdle]; rfl, fun r => by simp, by simp, by simp⟩
  · have held : (p.radio r).holder = some k.holder := Part.rcuOf_holder p rcu
    have left := Part.leaveClearing_eq rcu g
    have record : (p.leaveClearing g k).call k = CallRec.toIdle { p.call k with plan := [] } := by
      rw [left, Part.call_recordIdle, Part.call_passOn]
    intro q c camps
    have radio : ∀ r', q.radio r' = (p.passOn g k r).radio r' := by simp [q, left]
    have window : q.window = (p.passOn g k r).window := by simp [q, left]
    simp only [radio, window]
    rw [show q.call k = _ from record]
    refine ⟨rfl, rfl, rfl, rfl, rfl, rfl, rfl, rfl, rfl, fun wants free => ?_, fun d w stays side timedOut open' lent
      without => ?_, fun stays notLent => ?_, fun d w stays side inTime open' lent => ?_⟩
    · obtain ⟨d, cell, rfl, head, passes⟩ := Part.passOn_camps (p := p) wants r
      have side : d.record.side = some d := by cases d <;> rfl
      obtain ⟨given, other, opened⟩ := Part.openWindow_facts (p := p.campChoice g) (d := d) (r := r)
        (by rw [Part.radio_campChoice]; exact held) out (by
          have rcus : (p.campChoice g).rcuOf .window = p.rcuOf .window := rfl
          rw [rcus, Part.radio_campChoice]
          exact free) g cell
      rw [passes]
      refine ⟨given, other, d, cell, side, head, ?_⟩
      rw [opened, Part.call_campChoice]
    all_goals obtain ⟨u, passes, radios, windows, claims, calls⟩ := Part.passOn_gives (p := p) stays r
    · obtain rfl := RecId.record_of_side side
      have panel : d.record.holder ≠ .window := by cases d <;> decide
      obtain ⟨given, -, -, kept⟩ := Part.givenToWindow (p := u) (r := r) (by rw [radios]; exact held) panel
        (by rw [radios]; exact (p.rcuOf_eq_none _).mp without r.other) (by rw [Part.waits, claims]; exact out)
      rw [passes, side, Part.giveUpRcu_returns (by rw [calls]; exact timedOut) (windows.trans open') lent]
      refine ⟨(congrArg Radio.holder (Part.radio_withWindow _ _ r)).trans given, ?_⟩
      rw [Part.returnToWindow]
      dsimp only
      rw [kept, windows, open']
      rfl
    · have closes : u.closeLent k = u :=
        Part.closeLent_same fun d w side window => notLent d w side (windows ▸ window)
      rw [passes, Part.giveUpRcu_releases (fun d w side window lent => absurd lent (notLent d w side (windows ▸ window))),
        closes]
      exact ⟨Part.holder_releaseRcu u r, (Part.window_releaseRcu u r).trans windows⟩
    · rw [passes, Part.giveUpRcu_releases (fun _ _ _ _ _ => by rw [calls]; exact inTime)]
      exact ⟨Part.holder_releaseRcu _ r, (Part.window_releaseRcu _ r).trans
        (Part.window_closeLent_lent (windows.trans open') side lent)⟩

end Sys2Proof.Machine

/-! # The callback window and the timers of a record -/

namespace Sys2Proof.Machine

set_option Elab.async false

/-! ## The CAMP of a window -/

theorem Reaction.camp_enabled (p : Part) :
    Reaction.camp.enabled p = true ↔ (∃ w, p.window = some w ∧ w.state = .camping) ∧
      ∃ r, p.rcuOf .window = some r ∧ (p.radio r).condition = .awake ∧ (p.radio r).slot = none := by
  simp [Reaction.enabled, Option.any_eq_true, Part.ready_iff]

theorem Part.windowTakes_camped (g : Settings) {p : Part} {w : Window} (window : p.window = some w) (cell : CarrierKey) :
    p.windowTakes g (.camp cell) .camped = { p with window := some { w with state := .camped } } := by
  simp only [Part.windowTakes, window, Option.map_some]

/-! ## The camp choice -/

theorem Part.campQualifies_iff (g : Settings) (p : Part) (c : CarrierKey) : p.campQualifies g c = true ↔
    (∃ e, p.entryOf c.key = some e ∧ e.eligible g = true) ∧
      ∃ o, g.operatorFor c.carrier = some o ∧ o.subscribed = true := by
  rw [Part.campQualifies, Bool.and_eq_true, Settings.subscribed_eq_true, Option.any_eq_true]

theorem Part.stack_campChoice (g : Settings) (p : Part) :
    (p.campChoice g).stack = p.stack.dropWhile fun c => !p.campQualifies g c := rfl

/-- R129: what is popped does not qualify, and the key that is left on top does. -/
theorem Part.campChoice_spec (g : Settings) (p : Part) :
    (∃ popped, p.stack = popped ++ (p.campChoice g).stack ∧ ∀ c ∈ popped, ¬ p.campQualifies g c = true) ∧
      ∀ c rest, (p.campChoice g).stack = c :: rest → p.campQualifies g c = true := by
  rw [Part.stack_campChoice]
  refine ⟨⟨p.stack.takeWhile fun c => !p.campQualifies g c, List.takeWhile_append_dropWhile.symm, fun c hc => ?_⟩,
    fun c rest top => ?_⟩
  · simpa using List.mem_takeWhile_imp hc
  · have head := List.head?_dropWhile_not (fun c => !p.campQualifies g c) p.stack
    rw [top] at head
    simpa using head

/-! ## The end of a window -/

theorem Part.closeWindow_of_lent {p : Part} {w : Window} {d : Side} (window : p.window = some w)
    (lent : w.state = .lent d) : p.closeWindow = { p with window := none } :=
  Part.closeWindow_lent fun w' hw' => by rw [window] at hw'; cases hw'; exact ⟨d, lent⟩

@[simp] theorem Part.window_closeWindow (p : Part) : p.closeWindow.window = none := by
  unfold Part.closeWindow
  split
  · next none => exact none
  · dsimp only
    split
    · rfl
    all_goals
      split
      · rw [Part.window_releaseRcu]
      · rfl

theorem exec_windowExpiry {s : State} {w : Window} (running : s.isHeld = false) (window : s.part.window = some w) :
    exec .windowExpiry s = .next (s.conclude s.part.closeWindow) :=
  congrArg Host.Outcome.next (State.eventIf_taken running (fun _ p => p.closeWindow) (by rw [window]; rfl))

/-! ## The page -/

theorem Part.pageChoice_some {p : Part} {d d' : Side} (may : d' = d ∨ (p.call d.record).state ≠ .idle)
    (idle : (p.call d'.record).state = .idle) : p.pageChoice d = some d' := by
  unfold Part.pageChoice
  rcases may with rfl | busy
  · rw [if_pos idle]
  · have other : d' = d.other := by
      cases d <;> cases d'
      · exact absurd idle busy
      · rfl
      · rfl
      · exact absurd idle busy
    rw [if_neg busy, ← other, if_pos idle]

theorem Part.pageChoice_none {p : Part} (a : (p.call .sideA).state ≠ .idle) (b : (p.call .sideB).state ≠ .idle)
    (d : Side) : p.pageChoice d = none := by
  cases d
  · exact (if_neg a).trans (if_neg b)
  · exact (if_neg b).trans (if_neg a)

/-! ## Notices at a CAMPED RCU of the window -/

/-- The part when its CAMPED RCU has gone AWAKE (R65). -/
def Part.uncamped (p : Part) (r : RcuId) : Part := p.modRadio r fun x => { x with condition := .awake }

theorem Part.takeCellLost_window {p : Part} {r : RcuId} (held : (p.radio r).holder = some .window)
    (camped : (p.radio r).condition = .camped) (g : Settings) :
    p.takeCellLost g r = (p.uncamped r).campFailure g := by
  simp only [Part.takeCellLost]
  rw [if_pos camped, if_pos held]
  rfl

theorem Part.takePaged_window {p : Part} {r : RcuId} (held : (p.radio r).holder = some .window)
    (camped : (p.radio r).condition = .camped) : p.takePaged r = (p.uncamped r).windowPaged r := by
  simp only [Part.takePaged]
  rw [if_pos camped, if_pos held]
  rfl

theorem Part.windowPaged_taken {p : Part} {w : Window} {d : Side} (window : p.window = some w)
    (choice : p.pageChoice w.side = some d) (r : RcuId) : p.windowPaged r =
      ({ p.handOver .window d.record.holder r with window := some { w with state := .lent d } } : Part).setCall d.record
        (CallRec.alerting w) := by
  simp only [Part.windowPaged, window, choice]

theorem Part.windowPaged_refused {p : Part} {w : Window} (window : p.window = some w)
    (choice : p.pageChoice w.side = none) (r : RcuId) :
    p.windowPaged r = Part.offer r .reject { p with window := some { w with state := .camping } } := by
  simp only [Part.windowPaged, window, choice]

theorem Radio.condition_abandon (x : Radio) : x.abandon.condition = x.condition := by
  unfold Radio.abandon Radio.retire
  split
  · split <;> rfl
  · rfl

theorem Part.condition_endContinuous (p : Part) (r : RcuId) :
    ((p.endContinuous r).radio r).condition = (p.radio r).condition := by
  unfold Part.endContinuous
  split
  · simp [Part.abandonMeasurement]
  · rfl

/-- An AWAKE RCU that is handed over stays AWAKE. -/
theorem Part.condition_given {p : Part} {r : RcuId} (awake : (p.radio r).condition = .awake) (h : Holder) :
    (((p.holderLeaves r).assign r h).radio r).condition = .awake := by
  have left : ((p.holderLeaves r).radio r).condition = .awake := by
    have before : (((p.abandon r).endContinuous r).radio r).condition = .awake := by
      rw [Part.condition_endContinuous, Part.abandon, Part.radio_modRadio_self, Radio.condition_abandon, awake]
    rw [Part.holderLeaves, Part.radio_modRadio_self, if_neg (by rw [before]; decide), before]
  rw [Part.assign, Part.radio_modRadio_self]
  simp only [Radio.bringUp, left]

/-- Settles O32: the window's CAMP, page and end, each by the one function that handles it. -/
theorem windowsCampAndRing : Obligations.WindowsCampAndRing := by
  refine ⟨fun g p => ⟨Reaction.camp_enabled p, fun w r window rcu awake empty => ?_⟩,
    fun s r w hears window held => ⟨fun tag q cell slot order issuer live same low high => ⟨fun awake => ?_, ?_⟩,
      fun camped => ⟨?_, fun d may idle without out => ?_, fun a b => ?_⟩⟩,
    fun s w running window => ⟨fun d lent => ?_, fun state => ⟨fun r rcu => ?_, fun none => ?_⟩⟩, fun g p => ?_⟩
  · simp only [Reaction.run, Part.offerCamp, window, rcu]
    exact Part.offer_ready p r _ awake empty rfl
  · rw [exec_camped hears low high, Part.outcomeArrives_holder _ _ _ _ _ _ slot issuer live same (by rw [order]; rfl)
      (by simp), order, Part.report_window _ _ _ _ _ (by simp [held]) (by simp) (by simp),
      Part.windowTakes_camped _ (w := w) (by simp [window])]
    simp [Part.applyOutcome, awake, Part.startAnswerTimer]
  · rw [exec_noCell hears low high, Part.outcomeArrives_holder _ _ _ _ _ _ slot issuer live same (by rw [order]; rfl)
      (by simp), order, Part.report_window _ _ _ _ _ (by simp [held]) (by simp) (by simp),
      Part.applyOutcome_same (by simp)]
    rfl
  · refine congrArg Host.Outcome.next ((State.receivePlain_notice (n := .cellLost) hears (by decide) rfl).trans ?_)
    rw [Part.takeNotice, Part.takeCellLost_window held camped]
    rfl
  · have taken : s.part.takePaged r = _ := (Part.takePaged_window held camped).trans
      (Part.windowPaged_taken (w := w) (by simpa [Part.uncamped] using window)
        (Part.pageChoice_some (d' := d) (by simpa [Part.uncamped] using may) (by simpa [Part.uncamped] using idle)) r)
    have held' : ((s.part.uncamped r).radio r).holder = some .window := by simpa [Part.uncamped] using held
    have without' : (s.part.uncamped r).rcuOf d.record.holder = Option.none := by
      rw [Part.rcuOf_eq_none] at without ⊢
      intro r'
      rcases RcuId.eq_or_other r r' with rfl | rfl
      · rw [held']
        cases d <;> exact nofun
      · rw [Part.uncamped, Part.radio_modRadio_other]
        exact without _
    have out' : (s.part.uncamped r).waits d.record.holder = false := by simpa [Part.uncamped, Part.waits] using out
    refine ⟨_, congrArg Host.Outcome.next ((State.receivePlain_notice (n := .paged) hears (by decide) rfl).trans
      (congrArg s.conclude taken)), ?_⟩
    rw [Part.handOver_given held' without' out']
    refine ⟨?_, ?_, by simp, by simp [Part.uncamped], by simp [Part.uncamped], by simp [CallRec.alerting]; rfl⟩
    · rw [Part.radio_setCall, Part.radio_withWindow, Part.holder_assign]
    · rw [Part.radio_setCall, Part.radio_withWindow]
      exact Part.condition_given (by simp [Part.uncamped]) _
  · refine congrArg Host.Outcome.next ((State.receivePlain_notice (n := .paged) hears (by decide) rfl).trans ?_)
    rw [Part.takeNotice, Part.takePaged_window held camped]
    rw [Part.windowPaged_refused (w := w) (by simpa [Part.uncamped] using window)
      (Part.pageChoice_none (by simpa [Part.uncamped] using a) (by simpa [Part.uncamped] using b) _)]
    rfl
  · rw [exec_windowExpiry running window, Part.closeWindow_of_lent window lent]
  · rw [exec_windowExpiry running window, Part.closeWindow_open window state, rcu]
  · rw [exec_windowExpiry running window, Part.closeWindow_open window state, none]
  · obtain ⟨⟨popped, split, bad⟩, top⟩ := p.campChoice_spec g
    refine ⟨⟨popped, split, fun c hc => mt (p.campQualifies_iff g c).mpr (bad c hc)⟩,
      fun c rest h => (p.campQualifies_iff g c).mp (top c rest h), fun w window => ⟨?_, fun c head => ?_, fun empty => ?_⟩⟩
    · exact List.filter_congr fun c _ => by rw [bne, beq_eq_decide, decide_not]
    · obtain ⟨rest, choice⟩ : ∃ rest, ((p.dropStackKey w.campKey.key).campChoice g).stack = c :: rest :=
        List.head?_eq_some_iff.mp head
      simp only [Part.campFailure, window, choice]
    · simp only [Part.campFailure, window, empty]
      exact Part.window_closeWindow _

/-! ## The timers of a record -/

theorem CallRec.second_eq (c : CallRec) : (c.state = .idle → c.second = c) ∧
    (c.state ≠ .idle → c.second = { c with elapsed := if c.elapsed < 65535 then c.elapsed + 1 else 65535 }) :=
  ⟨fun idle => if_pos idle, fun busy => if_neg busy⟩

/-- Settles O33: the expiries of a record's timers, and the second count. -/
theorem recordTimers : Obligations.RecordTimers := by
  refine fun s k => ⟨fun running seeking paused timer => ?_, fun running timer => ?_, fun timer =>
    ⟨s.elapsedSecond, rfl, ?_⟩⟩
  · have waits : (s.part.call k).isPaused = true := by simp [CallRec.isPaused, seeking, paused, timer]
    exact congrArg Host.Outcome.next (State.eventIf_taken running _ waits)
  · exact congrArg Host.Outcome.next (State.eventIf_taken running (fun _ p => p.modCall k CallRec.regainExpired) timer)
  · rw [State.elapsedSecond, if_pos timer]
    obtain ⟨idle, busy⟩ := (s.part.call k).second_eq
    refine ⟨rfl, rfl, fun r => by cases r <;> rfl, rfl, fun h => Eq.trans ?_ (idle h), fun h => Eq.trans ?_ (busy h)⟩
    · cases k <;> rfl
    · cases k <;> rfl

end Sys2Proof.Machine

/-! # A seeking record -/

namespace Sys2Proof.Machine

set_option Elab.async false

/-! ## When it acts -/

theorem Radio.broken_iff (x : Radio) : x.broken = true ↔ x.condition = .faulted ∨ x.condition = .disabled := by
  simp [Radio.broken]

theorem Part.noRadio_iff (p : Part) :
    p.noRadio = true ↔ ∀ r, (p.radio r).condition = .faulted ∨ (p.radio r).condition = .disabled := by
  simp only [← Radio.broken_iff, Part.noRadio, Bool.and_eq_true]
  exact ⟨fun both r => by cases r <;> [exact both.1; exact both.2], fun all => ⟨all .rcu0, all .rcu1⟩⟩

theorem Part.seeks_iff (p : Part) (k : RecId) (step : SeekStep) : p.seeks k step = true ↔
    (p.call k).state = .seeking ∧ (p.call k).step = step ∧
      ∃ r, p.callRcu k = some r ∧ (p.radio r).condition = .awake ∧ (p.radio r).slot = none := by
  simp [Part.seeks, Option.any_eq_true, Part.ready_iff, and_assoc]

/-! ## The plan's next item -/

/-- R102, R118: what the recheck of a plan item asks. -/
theorem Part.usable_iff (g : Settings) (k : RecId) (p : Part) (x : PlanItem) : p.usable g k x = true ↔
    ∃ e, p.entryAt x.slot = some e ∧ e.eligible g = true ∧ (k = .test → e.accessFor g = .full) := by
  simp [Part.usable, Option.any_eq_true, or_iff_not_imp_left]

/-- The places a record still has to come to, each with its item. -/
theorem getElem?_places (plan : List PlanItem) (cursor i : Nat) :
    (plan.zipIdx.drop cursor)[i]? = plan[cursor + i]?.map fun x => (x, cursor + i) := by
  simp [List.getElem?_drop, List.getElem?_zipIdx]

theorem Part.nextTry_eq_some {g : Settings} {k : RecId} {p : Part} {j : Nat} {item : PlanItem}
    (behind : (p.call k).cursor ≤ j) (here : (p.call k).plan[j]? = some item) (usable : p.usable g k item = true)
    (first : ∀ i item', (p.call k).cursor ≤ i → i < j → (p.call k).plan[i]? = some item' →
      ¬ p.usable g k item' = true) : p.nextTry g k = some (item, j) := by
  refine List.find?_eq_some_iff_getElem.mpr ⟨usable, j - (p.call k).cursor, ?_⟩
  have found : ((p.call k).plan.zipIdx.drop (p.call k).cursor)[j - (p.call k).cursor]? = some (item, j) := by
    rw [getElem?_places, Nat.add_sub_cancel' behind, here]
    rfl
  obtain ⟨inRange, item_eq⟩ := List.getElem?_eq_some_iff.mp found
  refine ⟨inRange, item_eq, fun i hi => ?_⟩
  obtain ⟨item', place, same⟩ : ∃ item', (p.call k).plan[(p.call k).cursor + i]? = some item' ∧
      (item', (p.call k).cursor + i) = ((p.call k).plan.zipIdx.drop (p.call k).cursor)[i] := by
    have there := List.getElem?_eq_getElem (Nat.lt_trans hi inRange)
    rw [getElem?_places, Option.map_eq_some_iff] at there
    exact there
  rw [← same]
  simpa using first _ item' (Nat.le_add_right _ _) (by omega) place

theorem Part.nextTry_eq_none {g : Settings} {k : RecId} {p : Part}
    (none : ∀ item ∈ (p.call k).plan.drop (p.call k).cursor, ¬ p.usable g k item = true) : p.nextTry g k = .none := by
  refine List.find?_eq_none.mpr fun x hx => none x.1 ?_
  obtain ⟨i, hi⟩ := List.mem_iff_getElem?.mp hx
  rw [getElem?_places, Option.map_eq_some_iff] at hi
  obtain ⟨item, place, rfl⟩ := hi
  exact List.mem_of_getElem? ((List.getElem?_drop).trans place)

/-! ## The round -/

theorem Part.beginRound_plans {g : Settings} {p : Part} {k : RecId} (first : (p.call k).rounds = 0)
    (many : 2 ≤ p.eligibleCount g) (r : RcuId) : p.beginRound g k r =
      ((p.modCall k fun c => { c with blindTried := false, dialled := false }).buildPlan g k).modCall k
        fun c => { c with step := .next } := by
  have count : (p.modCall k fun c => { c with blindTried := false, dialled := false }).eligibleCount g =
      p.eligibleCount g := by rw [Part.eligibleCount, Part.table_modCall]; rfl
  simp only [Part.beginRound]
  refine if_neg ?_
  rw [Part.call_modCall_self, count]
  dsimp only
  omega

theorem Part.beginRound_sweeps {g : Settings} {p : Part} {k : RecId}
    (sweeps : 1 ≤ (p.call k).rounds ∨ p.eligibleCount g < 2) (r : RcuId) : p.beginRound g k r =
      ((p.modCall k fun c => { c with blindTried := false, dialled := false }).modCall k
        fun c => { c with step := .sweeping }).modRadio r fun x => { x with sweep := some (Sweep.create (.call k)) } := by
  have count : (p.modCall k fun c => { c with blindTried := false, dialled := false }).eligibleCount g =
      p.eligibleCount g := by rw [Part.eligibleCount, Part.table_modCall]; rfl
  simp only [Part.beginRound]
  refine if_pos ?_
  rw [Part.call_modCall_self, count]
  exact sweeps

theorem Part.beginNext_blind {g : Settings} {p : Part} {k : RecId} (panel : k ≠ .test) (plan : (p.call k).plan = [])
    (fresh : (p.call k).blindTried = false) (r : RcuId) : p.beginNext g k r = p.beginBlind k r := by
  simp only [Part.beginNext]
  rw [if_pos ⟨plan, fresh⟩, if_neg panel]

theorem Part.beginNext_try {g : Settings} {p : Part} {k : RecId} {x : PlanItem × Nat}
    (planned : (p.call k).plan ≠ []) (next : p.nextTry g k = some x) (r : RcuId) :
    p.beginNext g k r = p.beginTry g k r x := by
  simp only [Part.beginNext]
  rw [if_neg fun h => planned h.1]
  simp only [next]

theorem Part.beginNext_ends {g : Settings} {p : Part} {k : RecId}
    (spent : ¬ ((p.call k).plan = [] ∧ (p.call k).blindTried = false)) (none : p.nextTry g k = .none) (r : RcuId) :
    p.beginNext g k r = p.endRound k := by
  simp only [Part.beginNext]
  rw [if_neg spent]
  simp only [none]

theorem Part.endRound_panel {p : Part} {k : RecId} (panel : k ≠ .test) : p.endRound k =
    (p.modCall k fun c => { c with cursor := max c.cursor c.plan.length }).modCall k CallRec.endRound := by
  cases k
  · rfl
  · rfl
  · exact absurd rfl panel

theorem CallRec.endRound_eq (c : CallRec) : c.endRound =
    { c with rounds := min 255 (c.rounds + 1), step := if min 255 (c.rounds + 1) < 3 then .start else .paused,
             pauseTimer := if min 255 (c.rounds + 1) < 3 then c.pauseTimer else some 20000000 } := by
  simp only [CallRec.endRound, satInc_eq_min]
  split <;> rfl

/-- R119: the TEST record makes no blind attempt. -/
theorem Part.beginNext_untried {g : Settings} {p : Part} (plan : (p.call .test).plan = [])
    (fresh : (p.call .test).blindTried = false) (r : RcuId) :
    p.beginNext g .test r = (p.modCall .test fun c => { c with blindTried := true }).endRound .test := by
  simp only [Part.beginNext]
  rw [if_pos ⟨plan, fresh⟩]
  rfl

theorem Part.endRound_test (p : Part) : p.endRound .test =
    ((p.modCall .test fun c =>
      { c with cursor := max c.cursor c.plan.length, rounds := min 255 (c.rounds + 1) }).writeTest
        (if (p.call .test).dialled then .noAnswer else .noService)).enterClearing .test := by
  simp only [Part.endRound, Part.endTestRound, satInc_eq_min, Part.modCall_modCall]
  rfl

theorem Part.call_recordIdle_ne (p : Part) {k k' : RecId} (ne : k' ≠ k) : (p.recordIdle k).call k' = p.call k' := by
  rw [Part.recordIdle, Part.call_modCall_ne _ _ _ _ ne, Part.emptyPlan, Part.call_prune, Part.call_modCall_ne _ _ _ _ ne]

theorem Part.testResult_recordIdle (p : Part) (k : RecId) : (p.recordIdle k).testResult = p.testResult :=
  (Part.testResult_modCall _ k _).trans (p.testResult_modCall k fun c => { c with plan := [] })

theorem Part.notices_recordIdle (p : Part) (k : RecId) : (p.recordIdle k).notices = p.notices :=
  (Part.notices_modCall _ k _).trans (p.notices_modCall k fun c => { c with plan := [] })

/-- Settles O34, reaction by reaction. -/
theorem seekersTryTheirPlan : Obligations.SeekersTryTheirPlan := by
  refine ⟨fun g p => ⟨?_, fun q hq => ?_⟩, fun g p k => ⟨p.seeks_iff k .start, p.seeks_iff k .next, fun r rcu => ?_⟩,
    fun g p k r rcu awake empty => ?_⟩
  · rw [Reaction.enabled, Bool.and_eq_true, Part.noRadio_iff, beq_iff_eq]
  · subst hq
    have idle : (Reaction.testNoRadio.run g p).call .test = CallRec.toIdle { p.test with plan := [] } :=
      Part.call_recordIdle _ .test
    have claims : (Reaction.testNoRadio.run g p).claims = p.claims.filter (·.claimant != .test) :=
      Part.claims_recordIdle _ .test
    have test : ∀ x : Part, x.test = x.call .test := fun _ => rfl
    refine ⟨?_, ?_, ?_, ?_, ?_, ?_, ?_, fun r => ?_, fun d => ?_⟩
    · exact Part.testResult_recordIdle _ .test
    · exact Part.notices_recordIdle _ .test
    · rw [test, idle]; rfl
    · rw [test, idle]; rfl
    · rw [test, idle]; rfl
    · rw [claims]
      exact List.filter_congr fun w _ => by rw [bne, beq_eq_decide, decide_not]
    · simp [Part.waits, claims]
    · exact (Part.radio_recordIdle _ _ r).trans (by cases r <;> rfl)
    · exact (Part.call_recordIdle_ne _ (Side.test_ne_record d).symm).trans (by cases d <;> rfl)
  · exact ⟨fun first many => (Part.onRcu_some rcu _).trans (Part.beginRound_plans first many r),
      fun sweeps => (Part.onRcu_some rcu _).trans (Part.beginRound_sweeps sweeps r)⟩
  · intro c usable
    have run : (Reaction.seekNext k).run g p = p.beginNext g k r := Part.onRcu_some rcu _
    have recheck : ∀ item, p.usable g k item = true ↔ usable item := p.usable_iff g k
    have ready : ∀ (f : CallRec → CallRec) (o : Order), o.allowedIn .awake = true →
        (p.modCall k f).offer r o = (p.modCall k f).modRadio r (Radio.send o .holder) := fun f o ok =>
      Part.offer_ready _ r o (by rw [Part.radio_modCall]; exact awake) (by rw [Part.radio_modCall]; exact empty) ok
    rw [run]
    refine ⟨fun j item e behind here entry ok first => ?_, fun panel plan fresh => ?_, fun spent none => ?_⟩
    · have next := Part.nextTry_eq_some behind here ((recheck item).mpr ok)
        fun i item' low high place => mt (recheck item').mp (first i item' low high place)
      have planned : c.plan ≠ [] := by
        intro plan
        rw [plan] at here
        cases here
      refine ⟨{ target := .slot item.slot, cell := some { key := e.key, carrier := e.carrier }, access := e.accessFor g,
                destination := p.destinationFor g k (e.accessFor g) false, attached := false, opsFailed := false },
        rfl, rfl, rfl, rfl, ?_⟩
      rw [Part.beginNext_try planned next]
      simp only [Part.beginTry, entry]
      exact ready _ _ rfl
    · rw [Part.beginNext_blind panel plan fresh]
      exact ready _ _ rfl
    · have ends := Part.nextTry_eq_none fun item hi => mt (recheck item).mp (none item hi)
      intro n
      refine ⟨fun panel => ?_, fun test => ?_⟩
      · rw [Part.beginNext_ends (fun h => ?_) ends, Part.endRound_panel panel, Part.modCall_modCall]
        · exact Part.modCall_congr (CallRec.endRound_eq _)
        · rcases spent h.1 with tried | test
          · rw [h.2] at tried
            cases tried
          · exact panel test
      · subst test
        have ended : ∀ (f : CallRec → CallRec), f c = { c with
            blindTried := c.blindTried || c.plan.isEmpty, cursor := max c.cursor c.plan.length, rounds := n } →
            p.modCall .test f = p.modCall .test fun c => { c with
              blindTried := c.blindTried || c.plan.isEmpty, cursor := max c.cursor c.plan.length, rounds := n } :=
          fun f h => Part.modCall_congr h
        by_cases fresh : c.plan = [] ∧ c.blindTried = false
        · rw [Part.beginNext_untried fresh.1 fresh.2, Part.endRound_test, Part.modCall_modCall,
            Part.call_modCall_self, ended _ (by simp [fresh.1, n])]
        · rw [Part.beginNext_ends fresh ends, Part.endRound_test, ended]
          have tried : c.blindTried = (c.blindTried || c.plan.isEmpty) := by
            cases tried : c.blindTried
            · simpa using fun plan => fresh ⟨plan, tried⟩
            · rfl
          rw [← tried]

end Sys2Proof.Machine

/-! # The Level Converter and the Gate Counters -/

namespace Sys2Proof.Machine

set_option Elab.async false

/-! ## The ladder -/

theorem ladderStep_mono {m n : Nat} (h : m ≤ n) : ladderStep m ≤ ladderStep n :=
  Nat.sub_le_sub_right (Nat.mul_le_mul_left 40000 h) 20000

theorem ladderStep_lt {m n : Nat} (h : m < n) : ladderStep m < ladderStep n := by
  have steps : (40000 * m - 20000 : Nat) < 40000 * n - 20000 := by omega
  exact steps

/-- The trials made have closed in on the result: the code's own step lies below Vin, and the step that the trials to
come cannot reach does not. -/
structure Conversion.Closing (c : Conversion) : Prop where
  inOrder : c.trials ≤ 6
  below : c.code = 0 ∨ ladderStep c.code < c.vin
  above : c.code + 2 ^ (6 - c.trials) = 64 ∨ c.vin ≤ ladderStep (c.code + 2 ^ (6 - c.trials))

theorem Conversion.closing_begin (src : Source) (vin : Microvolts) : (Conversion.begin src vin).Closing :=
  ⟨Nat.zero_le 6, .inl rfl, .inl rfl⟩

theorem Conversion.Closing.trial {c : Conversion} (h : c.Closing) (more : c.trials < 6) : c.trial.Closing := by
  obtain ⟨-, below, above⟩ := h
  have half : 2 ^ (6 - c.trials) = 2 ^ (5 - c.trials) + 2 ^ (5 - c.trials) := by
    rw [show 6 - c.trials = (5 - c.trials) + 1 by omega, pow_succ]
    omega
  have left : 6 - c.trial.trials = 5 - c.trials := by
    have : c.trial.trials = c.trials + 1 := rfl
    omega
  have vin : c.trial.vin = c.vin := rfl
  refine ⟨more, ?_, ?_⟩
  · by_cases taken : ladderStep (c.code + 2 ^ (5 - c.trials)) < c.vin
    · exact .inr (by simp [Conversion.trial, taken])
    · simpa [Conversion.trial, taken] using below
  · rw [left, vin]
    by_cases taken : ladderStep (c.code + 2 ^ (5 - c.trials)) < c.vin
    · have code : c.trial.code = c.code + 2 ^ (5 - c.trials) := by simp [Conversion.trial, taken]
      rw [code, Nat.add_assoc, ← half]
      exact above
    · have code : c.trial.code = c.code := by simp [Conversion.trial, taken]
      rw [code]
      exact .inr (Nat.le_of_not_lt taken)

theorem Conversion.Closing.finish {n : Nat} {c : Conversion} (h : c.Closing) (room : c.trials + n ≤ 6) :
    (c.finish n).Closing ∧ (c.finish n).trials = c.trials + n ∧ (c.finish n).vin = c.vin := by
  induction n generalizing c with
  | zero => exact ⟨h, rfl, rfl⟩
  | succ n ih =>
    obtain ⟨closing, trials, vin⟩ := ih (h.trial (by omega)) (show c.trials + 1 + n ≤ 6 by omega)
    exact ⟨closing, trials.trans (by rw [show c.trial.trials = c.trials + 1 from rfl]; omega), vin⟩

theorem Conversion.result_finish {n : Nat} {c : Conversion} (room : c.trials + n ≤ 6) :
    (c.finish n).result = c.result := by
  induction n generalizing c with
  | zero => rfl
  | succ n ih =>
    exact (ih (c := c.trial) (show c.trials + 1 + n ≤ 6 by omega)).trans (Conversion.result_trial (by omega))

/-- R24: the result's step lies below Vin, and the next one does not. -/
theorem Conversion.result_spec (src : Source) (vin : Microvolts) : let code := (Conversion.begin src vin).result
    code ≤ 63 ∧ (code = 0 ∨ ladderStep code < vin) ∧ (code = 63 ∨ vin ≤ ladderStep (code + 1)) := by
  obtain ⟨⟨-, below, above⟩, trials, same⟩ :=
    (Conversion.closing_begin src vin).finish (n := 6) (by decide : (0 : Nat) + 6 ≤ 6)
  have done : 2 ^ (6 - ((Conversion.begin src vin).finish 6).trials) = 1 := by rw [trials]; rfl
  rw [done] at above
  rw [same] at below above
  have code : (Conversion.begin src vin).result = ((Conversion.begin src vin).finish 6).code := rfl
  intro result
  rw [show result = _ from code]
  refine ⟨Conversion.Ok.result_le (Conversion.ok_begin src vin), below, above.imp (fun h => by omega) id⟩

/-- Settles O35: the trials close in on the one code that the ladder admits. -/
theorem conversionsRoundToTheLadder : Obligations.ConversionsRoundToTheLadder := by
  refine ⟨fun n _ => rfl, fun src vin => ?_⟩
  obtain ⟨top, below, above⟩ := Conversion.result_spec src vin
  intro code
  have rounds : ∀ n : Nat, 1 ≤ n → n ≤ 63 → (n ≤ code ↔ ladderStep n < vin) := by
    intro n low high
    refine ⟨fun reached => ?_, fun under => ?_⟩
    · rcases below with zero | under
      · have : code = 0 := zero
        omega
      · exact Nat.lt_of_le_of_lt (ladderStep_mono reached) under
    · by_contra beyond
      rcases above with full | reached
      · have : code = 63 := full
        omega
      · have next : code + 1 ≤ n := by omega
        exact absurd under (Nat.not_lt.mpr (Nat.le_trans reached (ladderStep_mono next)))
  refine ⟨top, rounds, fun low => ?_, fun high => ?_, fun n low high on => ?_, fun k hk =>
    Conversion.result_finish (show 0 + k ≤ 6 by omega)⟩
  · by_contra some
    have first := (rounds 1 (by decide) (by decide)).mp (Nat.one_le_iff_ne_zero.mpr some)
    exact absurd first (Nat.not_lt.mpr low)
  · have step : ladderStep 63 = 2500000 := rfl
    have last : ladderStep 63 < vin := by rw [step]; exact high
    exact Nat.le_antisymm top ((rounds 63 (by decide) (by decide)).mpr last)
  · have notReached : ¬ n ≤ code := fun h =>
      absurd ((rounds n low high).mp h) (by rw [on]; exact Nat.lt_irrefl _)
    rcases above with full | reached
    · have : code = 63 := full
      omega
    · have next : n ≤ code + 1 := by
        by_contra beyond
        have under : ladderStep (code + 1) < vin :=
          Nat.lt_of_lt_of_eq (ladderStep_lt (Nat.lt_of_not_le beyond)) on.symm
        exact absurd under (Nat.not_lt.mpr reached)
      omega

/-! ## The converter's queue -/

theorem Converter.request_idle {c : Converter} (idle : c.current = none) (src : Source) (lines : AnalogLines) :
    c.request src lines = { c with current := some (Conversion.begin src (lines.read src)) } := by
  simp only [Converter.request, idle]

/-- R25: the three answers to a request while a conversion runs. -/
theorem Converter.request_busy {c : Converter} {cur : Conversion} (busy : c.current = some cur) (src : Source)
    (lines : AnalogLines) :
    (src ∈ c.queue ∨ (cur.source = src ∧ cur.withdrawn = false) → c.request src lines = c) ∧
      (src ∉ c.queue → cur.source = src → cur.withdrawn = true →
        c.request src lines = { c with deferred := some src }) ∧
      (src ∉ c.queue → cur.source ≠ src → c.request src lines = { c with queue := c.queue ++ [src] }) := by
  simp only [Converter.request, busy]
  refine ⟨fun waits => if_pos ?_, fun out same withdrawn => ?_, fun out other => ?_⟩
  · rcases waits with queued | ⟨same, live⟩
    · simp [queued]
    · simp [same, live]
  · rw [if_neg (by simp [out, withdrawn]), if_pos (by simp [same])]
  · rw [if_neg (by simp [out, other]), if_neg (by simp [other])]

theorem Converter.current_withdraw {c : Converter} {cur : Conversion} (busy : c.current = some cur) (src : Source) :
    (c.withdraw src).current = some (if cur.source = src then { cur with withdrawn := true } else cur) := by
  simp only [Converter.withdraw, busy, Option.map_some]

/-! ## A conversion completes -/

theorem exec_conversionComplete {s : State} {c : Conversion} (running : s.isHeld = false)
    (current : s.part.converter.current = some c) (v : Microvolts) :
    exec (.conversionComplete v) s =
      .next (s.conclude ((s.part.deliverResult s.settings c).advanceConverter v)) := by
  refine congrArg Host.Outcome.next ((State.eventIf_taken running (Part.conversionComplete v)
    (show s.part.converter.current.isSome = true by rw [current]; rfl)).trans ?_)
  simp only [Part.conversionComplete, current]

theorem Part.deliverResult_withdrawn (g : Settings) (p : Part) {c : Conversion} (withdrawn : c.withdrawn = true) :
    p.deliverResult g c = p := if_pos withdrawn

theorem Part.deliverResult_source (g : Settings) (p : Part) {c : Conversion} {src : Source} (live : c.withdrawn = false)
    (source : c.source = src) : p.deliverResult g c = p.deliver g src c.result := by
  simp [Part.deliverResult, live, source]

theorem Part.takeLevelCode_sampling {p : Part} {r : RcuId} (sampling : (p.radio r).measurement.phase = .sampling)
    (g : Settings) (code : Nat) : p.takeLevelCode g r code =
      (p.modRadio r fun x => { x with measurement := { x.measurement with code := some code } }).formPair g r := by
  simp only [Part.takeLevelCode]
  rw [if_pos sampling]
  rfl

/-- R36: a level code completes a window of a record's continuous measurement. -/
theorem Part.takeLevelCode_window {p : Part} {r : RcuId} {k : RecId} {key : Key} {n : Nat}
    (phase : (p.radio r).measurement.phase = .none) (requester : (p.radio r).measurement.requester = some .callManager)
    (held : (p.radio r).holder = some k.holder) (keyed : (p.radio r).measurement.key = some key)
    (count : (p.radio r).measurement.count = some n) (g : Settings) (code : Nat) : p.takeLevelCode g r code =
      (p.modRadio r fun x => { x with measurement := { x.measurement with code := none, count := none } }).takeWindow k
        key code (qualityOf n (p.radio r).measurement.gate) := by
  have monitors : p.takeLevelCode g r code = p.monitorCode r code := by
    simp only [Part.takeLevelCode]
    rw [if_neg (by rw [phase]; decide), if_pos requester]
  rw [monitors]
  simp only [Part.monitorCode, count, keyed, Part.holderRecord held]
  exact congrArg (Part.takeWindow k key code _) (Part.modRadio_congr (by simp [keyed]))

theorem Part.takeLevelCode_unasked {p : Part} {r : RcuId} (cleared : (p.radio r).measurement = Measurement.cleared)
    (g : Settings) (code : Nat) : p.takeLevelCode g r code = p := by
  simp only [Part.takeLevelCode, cleared]
  rfl

/-- Settles O36: the queue by its definitions, and a completion by the source of its result. -/
theorem converterServesInOrder : Obligations.ConverterServesInOrder := by
  refine ⟨fun src lines c => ⟨fun idle => Converter.request_idle idle src lines, fun cur busy => ?_, ?_, ?_,
    fun head rest queue => ?_, fun empty none => ?_⟩, fun s c v running current => ⟨fun withdrawn => ?_,
      fun live source => ?_, fun r live source sampling => ?_, fun r k key n live source phase requester held keyed count =>
      ?_, fun r live source cleared => ?_⟩⟩
  · obtain ⟨same, deferred, queued⟩ := Converter.request_busy busy src lines
    exact ⟨same, deferred, queued, fun own => by rw [Converter.current_withdraw busy, if_pos own],
      fun other => by rw [Converter.current_withdraw busy, if_neg other]⟩
  · simp [Converter.withdraw]
  · simp [Converter.withdraw, Option.filter_eq_some_iff]
  · simp only [Converter.advance, queue]
  · simp [Converter.advance, empty, none, Converter.cleared]
  all_goals rw [exec_conversionComplete running current]
  · rw [Part.deliverResult_withdrawn _ _ withdrawn]
  · rw [Part.deliverResult_source _ _ live source]
    rfl
  · rw [Part.deliverResult_source _ _ live source, Part.deliver, Part.takeLevelCode_sampling sampling]
  · rw [Part.deliverResult_source _ _ live source, Part.deliver,
      Part.takeLevelCode_window phase requester held keyed count]
  · rw [Part.deliverResult_source _ _ live source, Part.deliver, Part.takeLevelCode_unasked cleared]

/-! ## The Gate Counter -/

theorem GateCounter.edge_open {c : GateCounter} (open' : c.mode = .opened ∨ c.mode = .continuous) :
    c.edge = { c with count := satInc (c.length + 1) c.count } := by
  unfold GateCounter.edge
  rcases open' with mode | mode <;> rw [mode]

theorem State.modRadio_gate (s : State) (r : RcuId) {f : GateCounter → GateCounter} {gate : GateCounter}
    (h : f (s.part.radio r).gate = gate) : (s.modPart fun p => p.modRadio r fun x => { x with gate := f x.gate }) =
      s.modPart fun p => p.modRadio r fun x => { x with gate := gate } := by
  have radio : (s.part.modRadio r fun x => { x with gate := f x.gate }) =
      s.part.modRadio r fun x => { x with gate := gate } := Part.modRadio_congr (by rw [h])
  rw [State.modPart, radio]
  rfl

theorem State.modRadio_gate_same (s : State) (r : RcuId) {f : GateCounter → GateCounter}
    (same : f (s.part.radio r).gate = (s.part.radio r).gate) :
    (s.modPart fun p => p.modRadio r fun x => { x with gate := f x.gate }) = s := by
  have radio : s.part.modRadio r (fun x => { x with gate := f x.gate }) = s.part := Part.modRadio_same (by rw [same])
  rw [State.modPart, radio]

theorem qualityOf_spec (n g : Nat) (pos : 0 < g) : qualityOf n g ≤ 100 ∧
    (100 * n < 101 * g → qualityOf n g = 100 * n / g) ∧ (g ≤ n → qualityOf n g = 100) := by
  refine ⟨Nat.min_le_left _ _, fun below => Nat.min_eq_right ?_, fun full => Nat.min_eq_left ?_⟩
  · exact Nat.le_of_lt_succ ((Nat.div_lt_iff_lt_mul pos).mpr below)
  · exact (Nat.le_div_iff_mul_le pos).mpr (Nat.mul_le_mul_left 100 full)

/-- Settles O37, by the mode of the counter. -/
theorem gatesCountPulses : Obligations.GatesCountPulses := by
  intro s r x counted
  refine ⟨fun high armed => ?_, fun high other => ?_, fun open' => ?_, fun closed => ?_, fun running opened sampling => ?_,
    fun v continuous => ?_, qualityOf_spec⟩
  · refine congrArg Host.Outcome.next (s.modRadio_gate r (f := GateCounter.openTick high) ?_)
    simp only [GateCounter.openTick, show (s.part.radio r).gate.mode = _ from armed]
    rfl
  · refine congrArg Host.Outcome.next (s.modRadio_gate_same r (f := GateCounter.openTick high) ?_)
    unfold GateCounter.openTick
    split
    · next armed => exact absurd armed other
    all_goals rfl
  · refine congrArg Host.Outcome.next (s.modRadio_gate r (f := GateCounter.edge) ?_)
    exact GateCounter.edge_open open'
  · refine congrArg Host.Outcome.next (s.modRadio_gate_same r (f := GateCounter.edge) ?_)
    rcases closed with mode | mode <;> simp only [GateCounter.edge, show (s.part.radio r).gate.mode = _ from mode]
  · have closes : ((s.part.radio r).gate.mode == .opened) = true := by simpa using opened
    refine congrArg Host.Outcome.next ((State.eventIf_taken running
      (fun g p => (p.modRadio r Radio.closeGate).formPair g r) closes).trans ?_)
    refine congrArg (fun p => s.conclude (Part.formPair s.settings r p)) (Part.modRadio_congr ?_)
    simp only [Radio.closeGate, show (s.part.radio r).measurement.phase = _ from sampling, if_true]
  · have closes : s.part.windowCloses r v = _ := if_pos continuous
    exact congrArg (fun p => Host.Outcome.next { s with part := p }) closes

end Sys2Proof.Machine

/-! # Sweeps: pairs, items and their ends -/

namespace Sys2Proof.Machine

set_option Elab.async false

/-! ## The pair -/

theorem Part.formPair_waits {p : Part} {r : RcuId}
    (waits : (p.radio r).measurement.code = none ∨ (p.radio r).measurement.count = none) (g : Settings) :
    p.formPair g r = p := by
  simp only [Part.formPair]
  split
  · next hcode hcount =>
    rcases waits with none | none
    · rw [none] at hcode
      cases hcode
    · rw [none] at hcount
      cases hcount
  · rfl

theorem Part.formPair_formed {p : Part} {r : RcuId} {k : Key} {code count : Nat}
    (sampling : (p.radio r).measurement.phase = .sampling) (key : (p.radio r).measurement.key = some k)
    (hasCode : (p.radio r).measurement.code = some code) (hasCount : (p.radio r).measurement.count = some count)
    (g : Settings) :
    p.formPair g r = (p.modRadio r fun x => { x with measurement := Measurement.cleared }).takePair g r k code
      (qualityOf count (p.radio r).measurement.gate) := by
  simp only [Part.formPair, sampling, key, hasCode, hasCount]

theorem exec_settled {s : State} {r : RcuId} {tag : Byte} (hears : s.hears r) (low : 1 ≤ tag.toNat)
    (high : tag.toNat ≤ 15) (v : Microvolts) : let u := s.modPart (Part.setLine (.rcu r) v)
    exec (.settled r tag v) s = .next (u.conclude (u.part.outcomeArrives s.settings r .settled tag.toNat)) :=
  (outcomeFramesArrive s r tag hears low high).1 v

@[simp] theorem Part.radio_setLine (p : Part) (src : Source) (v : Microvolts) (r : RcuId) :
    (p.setLine src v).radio r = p.radio r := by cases r <;> rfl

/-- R58: an outcome that changes no condition and starts no timer is reported. -/
theorem Part.outcomeArrives_reported (g : Settings) {p : Part} {r : RcuId} {q : Pending} {o : ModuleOutcome} {tag : Nat}
    (slot : (p.radio r).slot = some q) (issuer : q.issuer = .holder) (live : q.phase ≠ .retired) (same : q.tag = tag)
    (answers : q.order.answeredBy o = true) (plain : ∀ x : Part, x.applyOutcome r q.order o = x)
    (done : o ≠ .cancelDone) (ringing : o ≠ .alerting) :
    p.outcomeArrives g r o tag = (p.answeredOn r).report g r q.order o := by
  rw [Part.outcomeArrives_holder g p r q o tag slot issuer live same answers done, plain]
  simp [Part.startAnswerTimer, ringing, Part.answeredOn]

@[simp] theorem Part.measurement_prove (p : Part) (r : RcuId) :
    ((p.prove r).radio r).measurement = (p.radio r).measurement ∧ ((p.prove r).radio r).sweep = (p.radio r).sweep := by
  unfold Part.prove
  dsimp only
  split
  · split <;> simp
  · exact ⟨rfl, rfl⟩

theorem Part.measurement_answeredOn (p : Part) (r : RcuId) :
    ((p.answeredOn r).radio r).measurement = (p.radio r).measurement ∧
      ((p.answeredOn r).radio r).sweep = (p.radio r).sweep := by
  simp [Part.answeredOn]

/-- Settles O38: SETTLED starts the sampling, and the pair waits for its two halves. -/
theorem settledStartsTheSampling : Obligations.SettledStartsTheSampling := by
  intro s r tag v q key hears slot order issuer live same low high settling u
  refine ⟨?_, fun p waits => Part.formPair_waits waits s.settings, fun p k code count sampling keyed hasCode hasCount =>
    Part.formPair_formed sampling keyed hasCode hasCount s.settings⟩
  have slot' : (u.part.radio r).slot = some q := by simpa [u, State.modPart] using slot
  have phase : ((u.part.answeredOn r).radio r).measurement.phase = .settling := by
    rw [(u.part.measurement_answeredOn r).1]
    simpa [u, State.modPart] using settling
  rw [exec_settled hears low high, Part.outcomeArrives_reported s.settings slot' issuer live same (by rw [order]; rfl)
    (fun _ => by rw [order]; rfl) (by simp) (by simp), order]
  refine congrArg (fun p => Host.Outcome.next (u.conclude p)) ((if_pos phase).trans (Part.modRadio_congr ?_))
  rw [Part.radio_requestConversion]
  rfl

/-! ## The end of an item -/

/-- The sweep on the RCU has ended its item (R49, R53). -/
def Part.itemEnded (p : Part) (r : RcuId) : Part := p.modSweep r Sweep.endItem

theorem Part.itemEnds_background (g : Settings) {p : Part} {r : RcuId} {c : Sweep} (sweep : (p.radio r).sweep = some c)
    (kind : c.kind = .full ∨ c.kind = .refresh) (key : Key) : p.itemEnds g r key = p.itemEnded r := by
  rcases kind with kind | kind <;> simp only [Part.itemEnds, sweep, kind] <;> rfl

theorem Entry.measured_eq (g : Settings) (kind : SweepKind) (l q : Nat) (e : Entry) :
    e.measured g (kind == .refresh) l q = { e with
      level := l, quality := q, age := 0,
      failures := if kind = .refresh ∧ g.levelFloor ≤ l then e.failures - 1 else e.failures } := by
  simp [Entry.measured]

theorem Part.takePair_present (g : Settings) {p : Part} {r : RcuId} {c : Sweep} {key : Key} {i : Nat}
    (sweep : (p.radio r).sweep = some c) (measuring : c.phase = .measuring) (slot : p.slotOf key = some i) (l q : Nat) :
    p.takePair g r key l q = (p.modEntry i fun e => { e with
      level := l, quality := q, age := 0,
      failures := if c.kind = .refresh ∧ g.levelFloor ≤ l then e.failures - 1 else e.failures }).itemEnds g r key := by
  simp only [Part.takePair, sweep, measuring, if_true, slot]
  exact congrArg (fun f => (p.modEntry i f).itemEnds g r key) (funext fun e => Entry.measured_eq g c.kind l q e)

theorem Part.takePair_absent (g : Settings) {p : Part} {r : RcuId} {c : Sweep} {key : Key}
    (sweep : (p.radio r).sweep = some c) (measuring : c.phase = .measuring) (slot : p.slotOf key = none) (l q : Nat) :
    p.takePair g r key l q = if c.kind = .refresh ∨ l < g.levelFloor then p.itemEnded r
      else (p.modSweep r fun c => { c with phase := .listening, pair := some (l, q) }).offer r (.listen key) := by
  simp only [Part.takePair, sweep, measuring, if_true, slot]
  rfl

/-! ## The outcomes of LISTEN -/

theorem Part.sweepNotHeard_listening {p : Part} {r : RcuId} {c : Sweep} (sweep : (p.radio r).sweep = some c)
    (listening : c.phase = .listening) : p.sweepNotHeard r = p.itemEnded r := by
  unfold Part.sweepNotHeard Part.itemEnded Part.modSweep
  exact Part.modRadio_congr (by simp [sweep, listening])

theorem Part.sweepHeard_listening (g : Settings) {p : Part} {r : RcuId} {c : Sweep} {item : SweepItem} {l q : Nat}
    (sweep : (p.radio r).sweep = some c) (listening : c.phase = .listening) (inHand : c.item = some item)
    (pair : c.pair = some (l, q)) (carrier : Nat) (kind : AccessKind) (barring : Barring) :
    p.sweepHeard g r carrier kind barring =
      (p.insertHeard g item.key l q carrier kind barring).itemEnds g r item.key := by
  simp only [Part.sweepHeard, sweep, listening, inHand, pair]

/-! ## The item a cursor reaches -/

/-- The places of a list, each with what it holds: the form in which the Channel List and the Cell Table are read. -/
def places {α : Type} (l : List (Option α)) : List (Nat × α) := l.zipIdx.filterMap fun x => x.1.map fun a => (x.2, a)

theorem mem_places {α : Type} {l : List (Option α)} {i : Nat} {a : α} : (i, a) ∈ places l ↔ l[i]? = some (some a) := by
  simp only [places, List.mem_filterMap, Option.map_eq_some_iff]
  constructor
  · rintro ⟨⟨_, _⟩, present, _, rfl, ⟨⟩⟩
    exact List.mem_zipIdx_iff_getElem?.mp present
  · intro h
    exact ⟨(some a, i), List.mem_zipIdx_iff_getElem?.mpr h, a, rfl, rfl⟩

theorem places_ordered {α : Type} (l : List (Option α)) : (places l).Pairwise fun x y => x.1 < y.1 := by
  have inOrder : l.zipIdx.Pairwise fun x y => x.2 < y.2 := by
    refine List.Pairwise.of_map (S := (· < ·)) Prod.snd (fun _ _ h => h) ?_
    rw [List.zipIdx_map_snd]
    exact List.pairwise_lt_range' 1
  refine inOrder.filterMap _ fun x y lt a ha b hb => ?_
  obtain ⟨_, _, rfl⟩ := Option.map_eq_some_iff.mp ha
  obtain ⟨_, _, rfl⟩ := Option.map_eq_some_iff.mp hb
  exact lt

/-- The first filled place at or behind `n`. -/
theorem find?_places {α : Type} {l : List (Option α)} {n i : Nat} {a : α} (behind : n ≤ i)
    (here : l[i]? = some (some a)) (first : ∀ j, n ≤ j → j < i → ∀ b, l[j]? ≠ some (some b)) :
    (places l).find? (fun x => decide (n ≤ x.1)) = some (i, a) := by
  obtain ⟨front, back, split⟩ := List.append_of_mem (mem_places.mpr here)
  refine List.find?_eq_some_iff_append.mpr ⟨by simpa using behind, front, back, split, fun x hx => ?_⟩
  have ordered := places_ordered l
  rw [split, List.pairwise_append] at ordered
  have before : x.1 < i := ordered.2.2 x hx (i, a) List.mem_cons_self
  have present : l[x.1]? = some (some x.2) := mem_places.mp (split ▸ List.mem_append_left _ hx)
  simpa using fun behind => first x.1 behind before x.2 present

theorem find?_places_none {α : Type} {l : List (Option α)} {n : Nat}
    (none : ∀ i a, n ≤ i → l[i]? ≠ some (some a)) : (places l).find? (fun x => decide (n ≤ x.1)) = .none := by
  refine List.find?_eq_none.mpr fun x hx => ?_
  simpa using fun behind => none x.1 x.2 behind (mem_places.mp hx)

theorem Sweep.searchFrom_le (c : Sweep) (i : Nat) : c.searchFrom ≤ i ↔ ∀ j, c.cursor = some j → j < i := by
  unfold Sweep.searchFrom
  cases c.cursor with
  | none => simp
  | some j => simp

theorem Part.nextItem_listed (g : Settings) (p : Part) {c : Sweep} (kind : c.kind = .full ∨ ∃ k, c.kind = .call k) :
    p.nextItem g c = ((places g.channels).find? fun x => decide (c.searchFrom ≤ x.1)).map fun x =>
      (x.1, { key := x.2.key, gate := x.2.gate }) := by
  rcases kind with kind | ⟨k, kind⟩ <;> simp only [Part.nextItem, kind] <;> rfl

theorem Part.nextItem_stored (g : Settings) (p : Part) {c : Sweep} (kind : c.kind = .refresh) :
    p.nextItem g c = ((places p.table).find? fun x => decide (c.searchFrom ≤ x.1)).map fun x =>
      (x.1, { key := x.2.key, gate := 8 }) := by
  simp only [Part.nextItem, kind]
  rfl

end Sys2Proof.Machine

/-! # Sweeps: how they run and end -/

namespace Sys2Proof.Machine

set_option Elab.async false

/-! ## A CALL sweep's item and its end -/

/-- The sweep after its item (R49, R53). -/
def Sweep.ended (c : Sweep) : Sweep := { c with phase := .none, item := none, pair := none, endedNow := true }

theorem Part.modSweep_some {p : Part} {r : RcuId} {c : Sweep} (sweep : (p.radio r).sweep = some c) (f : Sweep → Sweep) :
    p.modSweep r f = p.modRadio r fun x => { x with sweep := some (f c) } :=
  Part.modRadio_congr (f := fun x => { x with sweep := x.sweep.map f }) (by simp [sweep])

theorem Part.entryOf_any (g : Settings) (p : Part) (key : Key) :
    (p.entryOf key).any (·.eligible g) = true ↔ ∃ e, p.entryOf key = some e ∧ e.eligible g = true :=
  Option.any_eq_true _ _

theorem Part.itemEnds_call (g : Settings) {p : Part} {r : RcuId} {c : Sweep} {k : RecId} {key : Key}
    (sweep : (p.radio r).sweep = some c) (kind : c.kind = .call k) : p.itemEnds g r key =
      if (p.entryOf key).any (·.eligible g) then
        if 1 ≤ c.yields then
          (p.modSweep r fun c => { c.endItem with yields := satInc 2 c.yields }).completeSweep g r (.call k)
        else p.modSweep r fun c => { c.endItem with yields := satInc 2 c.yields }
      else p.modSweep r Sweep.endItem := by
  simp only [Part.itemEnds, sweep, kind]

@[simp] theorem Part.sweep_completeSweep_call (g : Settings) (p : Part) (r : RcuId) (k : RecId) :
    ((p.completeSweep g r (.call k)).radio r).sweep = none := by
  simp only [Part.completeSweep]
  split <;> simp

/-- R100, R51: the record builds its plan at the end of its sweep. -/
theorem Part.completeSweep_call (g : Settings) {p : Part} {k : RecId} (seeking : (p.call k).state = .seeking)
    (sweeping : (p.call k).step = .sweeping) (r : RcuId) : p.completeSweep g r (.call k) =
      ((p.removeSweep r).buildPlan g k).modCall k fun c => { c with step := .next } := by
  simp only [Part.completeSweep]
  exact if_pos ⟨by rw [Part.call_removeSweep]; exact seeking, by rw [Part.call_removeSweep]; exact sweeping⟩

theorem Part.holder_removeSweep (p : Part) (r : RcuId) : ((p.removeSweep r).radio r).holder = (p.radio r).holder := by
  unfold Part.removeSweep
  split
  · simp [Part.abandonMeasurement]
  · rfl

theorem Part.normalPlan_congr {p q : Part} (table : q.table = p.table) (g : Settings) :
    q.normalPlan g = p.normalPlan g := by
  simp only [Part.normalPlan, Part.ranking, Part.entries, table]

/-! ## How an item begins -/

theorem Reaction.sweepItem_enabled {p : Part} {r : RcuId} {c : Sweep} (sweep : (p.radio r).sweep = some c) :
    (Reaction.sweepItem r).enabled p = true ↔
      c.state = .running ∧ c.phase = .none ∧ (p.radio r).condition = .awake ∧ (p.radio r).slot = none := by
  simp only [Reaction.enabled, sweep, Option.any_some, Bool.and_eq_true, Part.ready_iff, beq_iff_eq]
  exact ⟨fun ⟨⟨awake, empty⟩, running, idle⟩ => ⟨running, idle, awake, empty⟩,
    fun ⟨running, idle, awake, empty⟩ => ⟨⟨awake, empty⟩, running, idle⟩⟩

theorem Part.beginItem_ready {p : Part} {r : RcuId} {c : Sweep} (sweep : (p.radio r).sweep = some c)
    (awake : (p.radio r).condition = .awake) (empty : (p.radio r).slot = none)
    (idle : (p.radio r).measurement.phase = .none) (i : Nat) (item : SweepItem) :
    p.beginItem r i item = p.modRadio r fun x => Radio.send (.measure item.key) .holder { x with
      sweep := some { c with cursor := some i, item := some item, pair := none, phase := .measuring }
      measurement := { phase := .settling, key := some item.key, gate := item.gate,
                       requester := some .sweep, code := none, count := none } } := by
  rw [Part.beginItem, Part.modSweep_some sweep, Part.modRadio_modRadio]
  refine Part.modRadio_congr ?_
  simp only [Radio.measure, awake, idle]
  rw [if_pos ⟨trivial, trivial⟩, Radio.offer_eq, if_pos ⟨empty, rfl⟩]

/-! ## How a background sweep completes -/

@[simp] theorem Part.sweep_releaseRcu (p : Part) (r : RcuId) :
    ((p.releaseRcu r).radio r).sweep = (p.radio r).sweep := by
  have abandoned : (p.radio r).abandon.sweep = (p.radio r).sweep := by
    unfold Radio.abandon Radio.retire
    split
    · split <;> rfl
    · rfl
  have ended : (((p.abandon r).endContinuous r).radio r).sweep = (p.radio r).sweep := by
    unfold Part.endContinuous
    split <;> simp [Part.abandonMeasurement, Part.abandon, abandoned]
  have left : ((p.holderLeaves r).radio r).sweep = (p.radio r).sweep := by
    rw [Part.holderLeaves, Part.radio_modRadio_self]
    split <;> exact ended
  rw [Part.releaseRcu, Part.radio_modRadio_self]
  exact left

theorem Part.surveyReleases_facts (g : Settings) (p : Part) (r : RcuId) : let q := p.surveyReleases g r
    (q.radio r).sweep = none ∧ (q.radio r).holder = none ∧ q.radio r.other = p.radio r.other ∧
      q.survey = { p.survey with state := if g.listHasItem then .idle else .notConfigured, kind := none } ∧
      q.claims = p.claims ∧ q.table = p.table ∧ ∀ k, q.call k = p.call k := by
  simp only [Part.surveyReleases, Part.surveyLosesRcu]
  refine ⟨?_, Part.holder_releaseRcu _ r, ?_, ?_, ?_, ?_, fun k => ?_⟩
  · rw [Part.sweep_releaseRcu, Part.radio_surveyIdle, Part.sweep_removeSweep]
  · rw [Part.radio_releaseRcu_ne _ (RcuId.other_ne r), Part.radio_surveyIdle, Part.radio_removeSweep_other]
  · simp [Part.surveyIdle]
  · simp [Part.surveyIdle]
  · simp [Part.surveyIdle]
  · simp

/-- Settles O39: what each block makes of a pair, of a LISTEN, of the end of an item and of the end of a sweep. -/
theorem sweepsFeedTheTable : Obligations.SweepsFeedTheTable := by
  refine ⟨fun s r c key l q sweep => ?_, fun g p r c k key sweep kind => ?_, fun g p r c sweep => ?_, fun g p c => ?_,
    Radio.begunNow_iff, fun g p key l q carrier kind barring => ?_⟩
  · intro g ended
    have answered : ((s.part.answeredOn r).radio r).sweep = some c := by
      rw [(s.part.measurement_answeredOn r).2]
      exact sweep
    refine ⟨fun p sweep kind => Part.itemEnds_background g sweep kind key, fun i measuring slot =>
      Part.takePair_present g sweep measuring slot l q, fun measuring slot skips => ?_, fun measuring slot kind loud => ?_,
      fun tag o item hears slot order issuer live same low high listening inHand own pair => ?_⟩
    · exact (Part.takePair_absent g sweep measuring slot l q).trans (if_pos skips)
    · rw [Part.takePair_absent g sweep measuring slot l q, if_neg, Part.modSweep_some sweep]
      rintro (refresh | quiet)
      · exact kind refresh
      · exact absurd loud (Nat.not_le.mpr quiet)
    · have told : ∀ x : ModuleOutcome, x = .notHeard ∨ (∃ n kind b, x = .heard n kind b) →
          s.part.outcomeArrives g r x tag.toNat = (s.part.answeredOn r).sweepTakes g r x := by
        intro x hx
        have answers : o.order.answeredBy x = true := by
          rcases hx with rfl | ⟨n, kind, b, rfl⟩ <;> rw [order] <;> rfl
        rw [Part.outcomeArrives_reported g slot issuer live same answers (fun _ => by rw [order]; rfl)
          (by rcases hx with rfl | ⟨n, kind, b, rfl⟩ <;> simp) (by rcases hx with rfl | ⟨n, kind, b, rfl⟩ <;> simp), order]
        rfl
      refine ⟨?_, fun waits => ?_, fun carrier kindCode barringCode hc hk hb => ?_⟩
      · rw [exec_notHeard hears low high, told _ (.inl rfl)]
        exact congrArg (fun p => Host.Outcome.next (s.conclude p)) (Part.sweepNotHeard_listening answered listening)
      · rw [State.failure_taken hears.1.1 slot issuer waits (by rw [order]; rfl), order]
        refine congrArg (fun p : Part => Host.Outcome.next (s.conclude (p.abandon r))) ?_
        exact (show _ = s.part.sweepNotHeard r from rfl).trans (Part.sweepNotHeard_listening sweep listening)
      · obtain ⟨-, -, -, -, -, -, -, -, -, -, -, -, -, -, -, -, heards⟩ := outcomeFramesArrive s r tag hears low high
        obtain ⟨kind, barring, kindOf, barringOf, arrives⟩ := heards carrier kindCode barringCode hc hk hb
        refine ⟨kind, barring, kindOf, barringOf, arrives.trans ?_⟩
        dsimp only
        rw [told _ (.inr ⟨_, _, _, rfl⟩), Part.sweepTakes, Part.sweepHeard_listening g answered listening inHand pair, own]
  · intro eligible ended
    have ends := p.itemEnds_call g (key := key) sweep kind
    simp only [Part.entryOf_any] at ends
    refine ⟨fun bad => ?_, fun good first => ?_, fun good second => ?_, fun seeking sweeping => ?_⟩
    · rw [ends, if_neg bad, Part.modSweep_some sweep]
      rfl
    · rw [ends, if_pos good, if_neg (by rw [first]; decide), Part.modSweep_some sweep, first]
      rfl
    · rw [ends, if_pos good, if_pos (by rw [second])]
      exact Part.sweep_completeSweep_call g _ r k
    · intro q
      have built := Part.completeSweep_call g seeking sweeping r
      refine ⟨Part.sweep_completeSweep_call g p r k, ?_, ?_⟩
      · simp only [q, built, Part.radio_modCall, Part.radio_buildPlan, Part.holder_removeSweep]
      · simp only [q, built, Part.buildPlan, Part.call_modCall_self, Part.call_prune, Part.call_removeSweep,
          Part.normalPlan_congr (p.table_removeSweep r)]
  · refine ⟨Reaction.sweepItem_enabled sweep, rfl, fun none => ?_, fun i item next => ⟨?_, fun awake empty idle =>
      Part.beginItem_ready sweep awake empty idle i item⟩, fun kind => ?_⟩
    · simp only [Part.sweepAdvances, sweep, none]
    · simp only [Part.sweepAdvances, sweep, next]
    · rcases kind with kind | kind <;> rw [kind] <;> exact p.surveyReleases_facts g r
  · intro beyond
    have behind : ∀ i, c.searchFrom ≤ i ↔ beyond i := c.searchFrom_le
    refine ⟨fun kind => ⟨fun i item at' here first => ?_, fun none => ?_⟩, fun kind => ⟨fun i e at' here first => ?_,
      fun none => ?_⟩⟩
    · rw [Part.nextItem_listed g p kind, find?_places ((behind i).mpr at') here
        fun j low high => first j ((behind j).mp low) high]
      rfl
    · rw [Part.nextItem_listed g p kind, find?_places_none fun i item low => none i item ((behind i).mp low)]
      rfl
    · rw [Part.nextItem_stored g p kind, find?_places ((behind i).mpr at') ((p.entryAt_eq_some i e).mp here)
        fun j low high e' he' => ?_]
      · rfl
      · rw [← Part.entryAt_eq_some, first j ((behind j).mp low) high] at he'
        cases he'
    · rw [Part.nextItem_stored g p kind, find?_places_none fun i e low he => ?_]
      · rfl
      · rw [← Part.entryAt_eq_some, none i ((behind i).mp low)] at he
        cases he
  · refine ⟨fun i slot => ⟨Part.slotOf_eq_some slot, ?_⟩, fun absent => ⟨fun i e => Part.slotOf_eq_none absent, ?_⟩⟩
    · simp only [Part.insertHeard, slot]
      rfl
    · simp only [Part.insertHeard, absent]

end Sys2Proof.Machine

/-! # The Cell Table: eligibility, scores and the ranking -/

namespace Sys2Proof.Machine

set_option Elab.async false

/-! ## Eligibility and scores -/

theorem Entry.eligible_iff (g : Settings) (e : Entry) : e.eligible g = true ↔
    g.levelFloor ≤ e.level ∧ e.barring ≠ .emergencyBarred ∧ e.failures < 7 := by
  simp [Entry.eligible, and_assoc]

/-- Settles O41: eligibility is R4's three tests, and reads no other field. -/
theorem eligibilityHasThreeTests : Obligations.EligibilityHasThreeTests := by
  refine fun g e => ⟨e.eligible_iff g, fun barred => ?_, fun b => rfl⟩
  rw [Bool.eq_iff_iff, Entry.eligible_iff, Entry.eligible_iff]
  simp [barred]

theorem classBonus_eq (n : Nat) : classBonus n = if n = 0 then 24 else if n = 1 then 16 else if n = 2 then 8 else 0 := by
  unfold classBonus
  split <;> simp_all

theorem Settings.carrierBonus_some {g : Settings} {carrier : Nat} {o : OperatorRec}
    (found : g.operatorFor carrier = some o) : g.carrierBonus carrier = classBonus o.cls := by
  rw [Settings.carrierBonus, found]

theorem Settings.carrierBonus_none {g : Settings} {carrier : Nat} (found : g.operatorFor carrier = none) :
    g.carrierBonus carrier = 0 := by
  rw [Settings.carrierBonus, found]

theorem Settings.carrierBonus_le (g : Settings) (carrier : Nat) : g.carrierBonus carrier ≤ 24 := by
  cases found : g.operatorFor carrier with
  | none => rw [Settings.carrierBonus_none found]; decide
  | some o =>
    rw [Settings.carrierBonus_some found, classBonus_eq]
    split_ifs <;> decide

theorem Settings.kindBonus_le {g : Settings} (ok : g.Ok) (kind : AccessKind) : g.kindBonus kind ≤ 15 := by
  obtain ⟨narrow, wide, broad⟩ := ok.kindBonuses
  cases kind
  · exact narrow
  · exact wide
  · exact broad

/-- R6: the largest score there is. -/
theorem Entry.score_le {g : Settings} {e : Entry} (ok : g.Ok) (range : e.Ok) : e.score g ≤ 190 := by
  obtain ⟨level, quality, -, -⟩ := range
  have carrier := g.carrierBonus_le e.carrier
  have kind := Settings.kindBonus_le ok e.kind
  unfold Entry.score
  omega

/-- Settles O42: the score is R6's sum, whose subtraction stops at 0. -/
theorem scoresFollowTheFormula : Obligations.ScoresFollowTheFormula := by
  intro g e
  refine ⟨?_, fun o found => ?_, fun none => Settings.carrierBonus_none none, fun o found =>
    Settings.mem_of_operatorFor found, fun none o mem => Settings.carrier_ne_of_operatorFor_none none mem,
    fun kind => by rw [kind]; rfl, fun kind => by rw [kind]; rfl, fun kind => by rw [kind]; rfl, Entry.score_le,
    fun out => ?_, fun ok => if_pos ok⟩
  · unfold Entry.score
    omega
  · rw [Settings.carrierBonus_some found, classBonus_eq]
  · rw [Entry.shownScore, out]
    rfl

/-! ## The ranking -/

theorem ranksAhead_iff (g : Settings) (a b : Nat × Entry) : ranksAhead g a b = true ↔
    b.2.score g < a.2.score g ∨
      (a.2.score g = b.2.score g ∧ (b.2.level < a.2.level ∨ (a.2.level = b.2.level ∧ a.1 < b.1))) := by
  simp [ranksAhead]

theorem ranksAhead_trans {g : Settings} {a b c : Nat × Entry} (hab : ranksAhead g a b = true)
    (hbc : ranksAhead g b c = true) : ranksAhead g a c = true := by
  rw [ranksAhead_iff] at hab hbc ⊢
  omega

theorem ranksAhead_total {g : Settings} {a b : Nat × Entry} (slots : a.1 ≠ b.1) (h : ranksAhead g a b = false) :
    ranksAhead g b a = true := by
  rw [← Bool.not_eq_true, ranksAhead_iff] at h
  rw [ranksAhead_iff]
  omega

/-- An entry takes its place in a ranked list of other slots. -/
theorem rankInsert_sorted {g : Settings} {x : Nat × Entry} {l : List (Nat × Entry)}
    (sorted : l.Pairwise fun a b => ranksAhead g a b = true) (slots : ∀ y ∈ l, x.1 ≠ y.1) :
    (rankInsert g x l).Pairwise fun a b => ranksAhead g a b = true := by
  induction l with
  | nil => exact List.pairwise_singleton _ x
  | cons y rest ih =>
    obtain ⟨head, tail⟩ := List.pairwise_cons.mp sorted
    unfold rankInsert
    split
    · next ahead =>
      refine List.pairwise_cons.mpr ⟨fun z hz => ?_, sorted⟩
      rcases List.mem_cons.mp hz with rfl | mem
      · exact ahead
      · exact ranksAhead_trans ahead (head z mem)
    · next behind =>
      refine List.pairwise_cons.mpr ⟨fun z hz => ?_, ih tail fun z hz => slots z (List.mem_cons_of_mem y hz)⟩
      rcases List.mem_cons.mp ((rankInsert_perm g x rest).mem_iff.mp hz) with rfl | mem
      · exact ranksAhead_total (slots y List.mem_cons_self) (by simpa using behind)
      · exact head z mem

/-- The slots of the eligible entries, in the order of the table. -/
theorem Part.eligible_slots (g : Settings) (p : Part) :
    (p.entries.filter fun x => x.2.eligible g).Pairwise fun x y => x.1 < y.1 :=
  (places_ordered p.table).filter _

theorem foldr_rankInsert_sorted (g : Settings) {l : List (Nat × Entry)} (slots : l.Pairwise fun x y => x.1 < y.1) :
    (l.foldr (rankInsert g) []).Pairwise fun a b => ranksAhead g a b = true := by
  induction l with
  | nil => exact List.Pairwise.nil
  | cons x rest ih =>
    obtain ⟨head, tail⟩ := List.pairwise_cons.mp slots
    exact rankInsert_sorted (ih tail) fun y hy =>
      Nat.ne_of_lt (head y ((foldr_rankInsert_perm g rest).mem_iff.mp hy))

theorem Part.ranking_sorted (g : Settings) (p : Part) :
    (p.ranking g).Pairwise fun a b => ranksAhead g a b = true := foldr_rankInsert_sorted g (p.eligible_slots g)

/-- Settles O43: insertion keeps the ranking sorted and loses no entry. -/
theorem rankingIsSorted : Obligations.RankingIsSorted := by
  refine fun g p => ⟨fun i e => p.mem_ranking g (i, e), ?_, ?_, ?_⟩
  · rw [((p.ranking_perm g).map _).nodup_iff]
    exact List.pairwise_map.mpr ((p.eligible_slots g).imp fun h => Nat.ne_of_lt h)
  · exact (p.ranking_sorted g).imp fun h => (ranksAhead_iff g _ _).mp h
  · exact List.map_congr_left fun x hx =>
      planItem_eligible ((p.mem_ranking g x).mp (List.mem_of_mem_take hx)).2

end Sys2Proof.Machine

/-! # Transactions: what select frames, and what a port ignores -/

namespace Sys2Proof.Machine

set_option Elab.async false

/-! ## Headers that no item answers (R146) -/

/-- A read header is told by its address. -/
theorem header_of_readAddress {header : Byte} {address : Nat} (high : 128 ≤ header.toNat)
    (item : header.toNat % 128 = address) : header = toByte (128 + address) := by
  have bound := header.isLt
  apply BitVec.eq_of_toNat_eq
  simp only [toByte, BitVec.toNat_ofNat]
  omega

/-- A write header is its address. -/
theorem header_of_writeAddress {header : Byte} {address : Nat} (item : header.toNat = address) :
    header = toByte address := by
  rw [← item, toByte, BitVec.ofNat_toNat, BitVec.setWidth_eq]

theorem State.cabinetBurst_unlisted (s : State) {header : Byte} (high : 128 ≤ header.toNat)
    (unlisted : cabinetHeaders.contains header = false) : s.cabinetBurst (header.toNat % 128) = none := by
  have no_item : ∀ address, cabinetHeaders.contains (toByte (128 + address)) = true →
      header.toNat % 128 ≠ address := by
    intro address listed item
    rw [← header_of_readAddress high item, unlisted] at listed
    cases listed
  have no_setting : s.settings.burst (header.toNat % 128) = none := by
    unfold Settings.burst
    split
    rotate_right
    · rfl
    all_goals exact absurd ‹_› (no_item _ (by decide))
  unfold State.cabinetBurst
  split
  rotate_right
  · exact no_setting
  all_goals exact absurd ‹_› (no_item _ (by decide))

theorem cabinetWriteBytes_unlisted {header : Byte} (unlisted : cabinetHeaders.contains header = false) :
    cabinetWriteBytes header.toNat = none := by
  have no_item : ∀ address, cabinetHeaders.contains (toByte address) = true → header.toNat ≠ address := by
    intro address listed item
    rw [← header_of_writeAddress item, unlisted] at listed
    cases listed
  unfold cabinetWriteBytes
  split
  rotate_right
  · rfl
  all_goals exact absurd ‹_› (no_item _ (by decide))

theorem panelRead_unlisted {header : Byte} (high : 128 ≤ header.toNat)
    (unlisted : panelHeaders.contains header = false) : ¬ (header.toNat % 128 = 1 ∨ header.toNat % 128 = 2) := by
  rintro (item | item) <;>
  · rw [header_of_readAddress high item] at unlisted
    exact absurd unlisted (by decide)

theorem panelWrite_unlisted {header : Byte} (unlisted : panelHeaders.contains header = false) :
    header.toNat ≠ 3 := by
  intro item
  rw [header_of_writeAddress item] at unlisted
  exact absurd unlisted (by decide)

theorem State.burstFor_unlisted (s : State) {q : PortId} {header : Byte} (unlisted : q.headers.contains header = false)
    (high : 128 ≤ header.toNat) : s.burstFor q (header.toNat % 128) = none := by
  cases q with
  | panelA => exact if_neg (panelRead_unlisted high unlisted)
  | panelB => exact if_neg (panelRead_unlisted high unlisted)
  | cabinet => exact s.cabinetBurst_unlisted high unlisted

theorem portWriteBytes_unlisted {q : PortId} {header : Byte} (unlisted : q.headers.contains header = false) :
    portWriteBytes q header.toNat = none := by
  cases q with
  | panelA => exact if_neg (panelWrite_unlisted unlisted)
  | panelB => exact if_neg (panelWrite_unlisted unlisted)
  | cabinet => exact cabinetWriteBytes_unlisted unlisted

theorem State.ignoredHeader_taken {s : State} {q : PortId} (start : s.atStart q) {header : Byte}
    (unlisted : q.headers.contains header = false) (data : List Byte) :
    s.clockBytes q false (header :: data) = s.setTx q { Transaction.start with
      state := .ignoring, dataOut := List.replicate data.length 0 } := by
  have first := s.clock_ignoredHeader q header false start (s.burstFor_unlisted unlisted)
    fun _ => portWriteBytes_unlisted unlisted
  have rest := s.clockBytes_ignored q false start.1 data { Transaction.start with state := .ignoring } rfl
  rw [State.clockBytes, List.foldl_cons, first]
  exact rest

/-! ## Select (R146, R147, R156) -/

theorem exec_selectAssert_begins {s : State} {q : PortId} (running : s.isHeld = false)
    (free : (s.tx q).state = .deselected) : exec (.selectAssert q) s = .next (s.setTx q Transaction.start) :=
  congrArg (fun t => Host.Outcome.next (s.setTx q t)) (if_pos ⟨running, free⟩)

theorem exec_selectAssert_continues {s : State} {q : PortId}
    (no_start : s.isHeld = true ∨ (s.tx q).state ≠ .deselected) :
    exec (.selectAssert q) s = .next (s.setTx q { s.tx q with select := true }) := by
  refine congrArg (fun t => Host.Outcome.next (s.setTx q t)) (if_neg ?_)
  rintro ⟨running, free⟩
  rcases no_start with held | taken
  · rw [running] at held
    cases held
  · exact taken free

/-- R147, R158: the bytes of a write that is not complete go with the deselect. -/
theorem State.cutShort_discarded {s : State} {q : PortId} (start : s.atStart q) {header : Byte} {data : List Byte}
    {n : Nat} (early : Bool) (low : header.toNat < 128) (item : portWriteBytes q header.toNat = some n)
    (short : data.length < n) :
    (s.clockBytes q early (header :: data)).selectFalls q = s.setTx q { Transaction.start with
      select := false, state := .deselected, item := some header.toNat } := by
  have first := s.clock_writeHeader q header n early start low item
  have rest := s.clock_someData q header.toNat n early start.1 item data [] (by simpa using short)
  rw [State.clockBytes, List.foldl_cons, first]
  rw [State.clockBytes] at rest
  rw [rest]
  simp [State.selectFalls, State.modTx, Transaction.finish, Transaction.writingTo, Transaction.start]

/-- Settles O46, from what select frames and what the port ignores. -/
theorem selectFramesTransactions : Obligations.SelectFramesTransactions := by
  refine ⟨fun s q early => ⟨fun running free => exec_selectAssert_begins running free,
    fun no_start => exec_selectAssert_continues no_start, rfl⟩, fun s q header data early start =>
    ⟨fun n low item short => ⟨_, congrArg Host.Outcome.next (State.cutShort_discarded start early low item short), rfl⟩,
      fun unlisted => ⟨_, congrArg Host.Outcome.next (State.ignoredHeader_taken start unlisted data), ?_⟩⟩⟩
  rw [State.tx_setTx_self]
  exact ⟨State.part_setTx .., State.settings_setTx .., rfl, rfl, rfl⟩

end Sys2Proof.Machine

/-! # What a panel reads -/

namespace Sys2Proof.Machine

set_option Elab.async false

/-- STATUS or PEEK is the item of the address. -/
theorem State.burstFor_panel (s : State) (d : Side) {address : Nat} (item : address = 1 ∨ address = 2) :
    s.burstFor d.port address = some (s.panelBurst d) := by
  cases d <;> exact if_pos item

theorem State.readEffect_status (s : State) (d : Side) :
    s.readEffect d.port 1 = s.modPanel d fun x => { x with notices := PanelNotices.none } := by
  cases d <;> rfl

theorem State.readEffect_peek (s : State) (d : Side) : s.readEffect d.port 2 = s := by
  cases d <;> rfl

/-- R149: the panel burst, byte by byte. -/
theorem State.panelBurst_bytes (s : State) (d : Side) : let c := s.part.call d.record
    let x := s.panel d
    s.panelBurst d = [toByte c.state.code, toByte (s.part.indication d).code,
      toByte ((if s.part.power.level = .normal then 0 else 1) + (if c.regain then 2 else 0) +
        (if c.incoming then 4 else 0) + 16 * s.part.power.level.code),
      toByte (16 * x.lastResult.code + c.lastCause.code), toByte c.rounds, toByte c.segments,
      toByte (c.sequence.toNat / 256), toByte c.sequence.toNat, toByte (c.elapsed / 256), toByte c.elapsed,
      x.lastCommand.getD 0, x.commandCount] := by
  cases level : s.part.power.level <;> simp [State.panelBurst, panelFlags, bitAt, bytes2, level, PowerLevel.low]

theorem State.length_panelBurst (s : State) (d : Side) : (s.panelBurst d).length = 12 := rfl

/-- R150: STATUS sends the burst and empties the notice set. -/
theorem State.status_taken {s : State} {d : Side} (start : s.atStart d.port) (clocks : Nat) (early : Bool) :
    ∃ t, s.readItem d.port 0x81 clocks early =
        (s.modPanel d fun x => { x with notices := PanelNotices.none }).setTx d.port t ∧
      t.dataOut = (List.range clocks).map (readOut (s.panelBurst d) early) := by
  rw [← s.readEffect_status d]
  exact s.readItem_taken d.port 0x81 _ clocks early start (by decide) (s.burstFor_panel d (Or.inl rfl))
    (by rw [s.length_panelBurst d]; decide) (by cases d <;> rfl) (by cases d <;> rfl)

/-- R149: PEEK sends the same burst and leaves the notices. -/
theorem State.peek_taken {s : State} {d : Side} (start : s.atStart d.port) (clocks : Nat) (early : Bool) :
    ∃ t, s.readItem d.port 0x82 clocks early = s.setTx d.port t ∧
      t.dataOut = (List.range clocks).map (readOut (s.panelBurst d) early) := by
  have taken := s.readItem_taken d.port 0x82 _ clocks early start (by decide) (s.burstFor_panel d (Or.inr rfl))
    (by rw [s.length_panelBurst d]; decide) (by cases d <;> rfl) (by cases d <;> rfl)
  rwa [show (0x82 : Byte).toNat % 128 = 2 from rfl, s.readEffect_peek d] at taken

/-- Settles O47, from the two reads and the bytes of the burst. -/
theorem panelReads : Obligations.PanelReads := by
  refine ⟨fun s d clocks early start => ⟨s.length_panelBurst d, ?_, ?_⟩, fun s d => s.panelBurst_bytes d,
    rfl, rfl, rfl, rfl, rfl⟩
  · obtain ⟨t, taken, sent⟩ := State.status_taken start clocks early
    refine ⟨_, congrArg Host.Outcome.next taken, ?_, ?_⟩
    · rw [State.tx_setTx_self, sent]
      rfl
    · cases d <;> exact ⟨rfl, Bool.and_false _, rfl, rfl, rfl, rfl⟩
  · obtain ⟨t, taken, sent⟩ := State.peek_taken start clocks early
    refine ⟨_, congrArg Host.Outcome.next taken, ?_, ?_⟩
    · rw [State.tx_setTx_self, sent]
      rfl
    · cases d <;> exact ⟨rfl, rfl, rfl, rfl, rfl⟩

/-! # What the cabinet reads -/

/-! ## CABINET_STATUS (R169) -/

/-- R169: the entries counted are the present ones that stand in the table. -/
theorem Part.entryCount_eq (p : Part) : p.entryCount = (p.table.filterMap id).length := by
  rw [Part.entryCount, List.countP_eq_length_filter, List.length_filterMap_eq_countP, List.countP_eq_length_filter]
  rfl

theorem Part.eligibleCount_eq (g : Settings) (p : Part) :
    p.eligibleCount g = ((p.table.filterMap id).filter fun e => e.eligible g).length := by
  rw [← List.countP_eq_length_filter, List.countP_filterMap]
  refine List.countP_congr fun o _ => ?_
  cases o <;> simp

theorem CabinetNotices.byte_eq (n : CabinetNotices) :
    let flag := fun (b : Bool) (weight : Nat) => if b then weight else 0
    n.byte = flag n.testDone 1 + flag n.radioChanged 2 + flag n.powerChanged 4 + flag n.resetOccurred 8 +
      flag n.callEvent 16 := rfl

theorem State.cabinetStatusBurst_bytes (s : State) : let n := s.part.notices
    let x := s.cabinet
    let present := s.part.table.filterMap id
    let flag := fun (b : Bool) (weight : Nat) => if b then weight else 0
    s.cabinetStatusBurst =
      [toByte (flag n.testDone 1 + flag n.radioChanged 2 + flag n.powerChanged 4 + flag n.resetOccurred 8 +
          flag n.callEvent 16),
        toByte s.part.power.level.code, toByte s.part.survey.state.code,
        (if s.part.survey.kind = some .full then 1 else if s.part.survey.kind = some .refresh then 2 else 0),
        toByte s.part.survey.passCount, toByte present.length,
        toByte (present.filter fun e => e.eligible s.settings).length, x.lastCommand.getD 0,
        toByte x.lastResult.code, x.commandCount, toByte (x.lastItem.getD 0), toByte x.writeResult.code,
        toByte (flag x.clamped 1), x.writeCount, toByte s.part.testResult.code,
        toByte (flag s.part.noRadio 1)] := by
  have kind : toByte ((s.part.survey.kind.map BackgroundKind.code).getD 0) =
      if s.part.survey.kind = some .full then 1 else if s.part.survey.kind = some .refresh then 2 else 0 := by
    cases s.part.survey.kind with
    | none => rfl
    | some kind => cases kind <;> rfl
  have flag : ∀ b, boolByte b = toByte (if b then 1 else 0) := by decide
  simp only [State.cabinetStatusBurst, kind, flag, CabinetNotices.byte_eq, Part.entryCount_eq, Part.eligibleCount_eq]

theorem State.length_cabinetStatusBurst (s : State) : s.cabinetStatusBurst.length = 16 := rfl

/-! ## TABLE_ENTRY (R22) -/

theorem entryFlags_eq (g : Settings) (p : Part) (slot : Nat) (e : Entry) : entryFlags g p slot e =
    1 + (if e.eligible g then 2 else 0) + (if p.pinned slot e.key then 4 else 0) + (if e.fullRefused then 8 else 0) +
      16 * e.barring.code + 64 * e.kind.code := rfl

theorem State.tableEntryBurst_absent {s : State} (absent : s.part.entryAt s.cabinet.tableSelect = none) :
    s.tableEntryBurst = toByte s.cabinet.tableSelect :: List.replicate 11 0 := by
  rw [State.tableEntryBurst, absent]
  rfl

theorem State.tableEntryBurst_present {s : State} {e : Entry}
    (present : s.part.entryAt s.cabinet.tableSelect = some e) :
    s.tableEntryBurst =
      [toByte s.cabinet.tableSelect,
        toByte (1 + (if e.eligible s.settings then 2 else 0) +
          (if s.part.pinned s.cabinet.tableSelect e.key then 4 else 0) + (if e.fullRefused then 8 else 0) +
          16 * e.barring.code + 64 * e.kind.code),
        toByte e.key.band, toByte (e.key.channel / 256), toByte e.key.channel, toByte (e.carrier / 256),
        toByte e.carrier, toByte e.level, toByte e.quality, toByte e.age, toByte e.failures,
        toByte (if e.eligible s.settings then e.score s.settings else 0)] := by
  rw [State.tableEntryBurst, present]
  rfl

theorem State.length_tableEntryBurst (s : State) : s.tableEntryBurst.length = 12 := by
  cases content : s.part.entryAt s.cabinet.tableSelect with
  | none => rw [State.tableEntryBurst_absent content]; rfl
  | some e => rw [State.tableEntryBurst_present content]; rfl

/-! ## The reads, and the write of TABLE_SELECT (R167) -/

theorem State.cabinetStatus_taken {s : State} (start : s.atStart .cabinet) (clocks : Nat) (early : Bool) :
    ∃ t, s.readItem .cabinet 0xa4 clocks early =
        (s.modPart fun p => { p with notices := CabinetNotices.none }).setTx .cabinet t ∧
      t.dataOut = (List.range clocks).map (readOut s.cabinetStatusBurst early) :=
  s.readItem_taken .cabinet 0xa4 _ clocks early start (by decide) rfl
    (by rw [s.length_cabinetStatusBurst]; decide) rfl rfl

theorem State.tableEntry_taken {s : State} (start : s.atStart .cabinet) (clocks : Nat) (early : Bool) :
    ∃ t, s.readItem .cabinet 0x99 clocks early = State.setTx .cabinet t
        { s with cabinet := { s.cabinet with tableSelect := nextSlot s.cabinet.tableSelect } } ∧
      t.dataOut = (List.range clocks).map (readOut s.tableEntryBurst early) :=
  s.readItem_taken .cabinet 0x99 _ clocks early start (by decide) rfl
    (by rw [s.length_tableEntryBurst]; decide) rfl rfl

theorem State.tableSelect_taken {s : State} (start : s.atStart .cabinet) (slot : Byte) :
    s.writeItem .cabinet 24 [slot] = (s.setTx .cabinet (Transaction.wrote 24 [slot])).writeTableSelect [slot] :=
  s.writeItem_taken .cabinet 24 [slot] start (by decide) rfl (by simp)

theorem State.writeTableSelect_low {slot : Byte} (low : slot.toNat ≤ 23) (s : State) : s.writeTableSelect [slot] =
    { s with cabinet := { s.cabinet with tableSelect := slot.toNat }.recordWrite 24 .accepted false } :=
  if_neg (Nat.not_lt.mpr low)

theorem State.writeTableSelect_high {slot : Byte} (high : ¬ slot.toNat ≤ 23) (s : State) : s.writeTableSelect [slot] =
    { s with cabinet := s.cabinet.recordWrite 24 .badValue false } :=
  if_pos (Nat.lt_of_not_le high)

/-- Settles O48, from the two reads, the bytes of their bursts and the write of the table select. -/
theorem cabinetReads : Obligations.CabinetReads := by
  refine ⟨⟨rfl, rfl, rfl, rfl, rfl, rfl, rfl, rfl, rfl, rfl, fun d => rfl, rfl, rfl, rfl⟩,
    fun s clocks early start => ⟨?_, ?_, s.length_cabinetStatusBurst, s.length_tableEntryBurst,
      State.tableEntryBurst_absent, fun e => State.tableEntryBurst_present, s.cabinetStatusBurst_bytes,
      fun slot => ?_⟩⟩
  · obtain ⟨t, taken, sent⟩ := State.cabinetStatus_taken start clocks early
    refine ⟨_, congrArg Host.Outcome.next taken, ?_, Bool.and_false _, rfl, rfl, rfl, rfl, rfl⟩
    rw [State.tx_setTx_self, sent]
    rfl
  · obtain ⟨t, taken, sent⟩ := State.tableEntry_taken start clocks early
    refine ⟨_, congrArg Host.Outcome.next taken, ?_, rfl, rfl, rfl, rfl, rfl⟩
    rw [State.tx_setTx_self, sent]
    rfl
  · refine ⟨_, congrArg Host.Outcome.next (State.tableSelect_taken start slot), ?_⟩
    by_cases low : slot.toNat ≤ 23
    · rw [State.writeTableSelect_low low, if_pos low, if_pos low]
      exact ⟨rfl, rfl, rfl, rfl, rfl, rfl, rfl⟩
    · rw [State.writeTableSelect_high low, if_neg low, if_neg low]
      exact ⟨rfl, rfl, rfl, rfl, rfl, rfl, rfl⟩

end Sys2Proof.Machine

/-! # Writes of a timing or threshold setting -/

namespace Sys2Proof.Machine

set_option Elab.async false

/-! ## The clamp (R159) -/

theorem clampTo_eq {lo hi : Nat} (range : lo ≤ hi) (x : Nat) :
    clampTo lo hi x = if x < lo then lo else if hi < x then hi else x := by
  simp only [clampTo]
  split
  · omega
  · split <;> omega

/-- A value is clamped where it stands outside its range. -/
theorem clampTo_bne {lo hi : Nat} (range : lo ≤ hi) (x : Nat) :
    (clampTo lo hi x != x) = decide (x < lo ∨ hi < x) := by
  rw [Bool.eq_iff_iff, bne_iff_ne, decide_eq_true_iff]
  simp only [clampTo]
  omega

theorem itemRange_ordered (item : SettingItem) : (itemRange item).1 ≤ (itemRange item).2 := by
  cases item <;> decide

theorem clampItem_eq (item : SettingItem) (x : Nat) : clampItem item x =
    if x < (itemRange item).1 then (itemRange item).1
    else if (itemRange item).2 < x then (itemRange item).2 else x :=
  clampTo_eq (itemRange_ordered item) x

theorem clampItem_bne (item : SettingItem) (x : Nat) :
    (clampItem item x != x) = decide (x < (itemRange item).1 ∨ (itemRange item).2 < x) :=
  clampTo_bne (itemRange_ordered item) x

/-! ## The number a write carries -/

theorem numOf_byte (b : Byte) : numOf [b] = b.toNat := by
  simp [numOf]

theorem numOf_bytes2 (v : BitVec 16) : numOf (bytes2 v.toNat) = v.toNat := by
  have bound := v.isLt
  simp [numOf, bytes2, toByte]
  omega

/-! ## The write of an item (R158, R160) -/

theorem Settings.write_item (g : Settings) (item : SettingItem) (data : List Byte) :
    g.write (toByte (itemAddress item)).toNat data = g.writeItem item data := by
  cases item <;> rfl

theorem Settings.listHasItem_writeItem (g : Settings) (item : SettingItem) (data : List Byte) :
    (g.writeItem item data).settings.listHasItem = g.listHasItem := by
  cases item <;> rfl

theorem Settings.result_writeItem (g : Settings) (item : SettingItem) (data : List Byte) :
    (g.writeItem item data).result = .accepted := by
  cases item <;> rfl

/-- The address of an item fits a header, and the item takes as many bytes as Table 11-5 says. -/
theorem itemAddress_facts (item : SettingItem) : (toByte (itemAddress item)).toNat = itemAddress item ∧
    itemAddress item < 24 ∧ cabinetWriteBytes (itemAddress item) = some item.writeBytes := by
  cases item <;> decide

/-- What a whole write of a timing or threshold setting leaves. -/
theorem State.settingWrite_leaves {s : State} (start : s.atStart .cabinet) {item : SettingItem} {data : List Byte}
    (whole : data.length = item.writeBytes) (nonempty : data ≠ []) {stored : Settings} {clamped : Bool}
    (written : s.settings.writeItem item data = stored.written clamped) :
    ∃ t, exec (.settingWrite item data) s = .next t ∧ t.settings = stored ∧ t.part = s.part ∧
      t.panelA = s.panelA ∧ t.panelB = s.panelB ∧ t.cabinet.lastItem = some (itemAddress item) ∧
      t.cabinet.writeResult = .accepted ∧ t.cabinet.clamped = clamped ∧
      t.cabinet.writeCount = s.cabinet.writeCount + 1 := by
  obtain ⟨address, low, bytes⟩ := itemAddress_facts item
  have taken := State.writeItem_quiet (address := toByte (itemAddress item)) (data := data) start
    (by rw [address, bytes, whole]) nonempty (by rw [address]; exact low)
    (by rw [Settings.write_item, Settings.listHasItem_writeItem])
  rw [Settings.write_item, written] at taken
  exact ⟨_, congrArg Host.Outcome.next taken, rfl, rfl, rfl, rfl, congrArg some address, rfl, rfl, rfl⟩

/-- Settles O49, item by item: one number and its clamp, or the three bonuses. -/
theorem settingWritesClamp : Obligations.SettingWritesClamp := by
  intro s v b n w r start g wrote clamp out two
  have leaves : ∀ {item : SettingItem} {data : List Byte} {stored : Settings} {clamped : Bool},
      data.length = item.writeBytes → data ≠ [] → g.writeItem item data = stored.written clamped →
        wrote item data stored clamped :=
    fun whole nonempty written => State.settingWrite_leaves start whole nonempty written
  have wide : numOf two = v.toNat := numOf_bytes2 v
  have two_given : two ≠ [] := by simp [two]
  refine ⟨leaves rfl (by simp) ?floor, leaves rfl two_given ?age, leaves rfl two_given ?survey,
    leaves rfl (by simp) ?bonuses, leaves rfl two_given ?regain, leaves rfl two_given ?answer,
    leaves rfl (by simp) ?callback, leaves rfl two_given ?doze⟩
  case floor | callback =>
    rw [Settings.writeItem, numOf_byte, clampItem_bne, clampItem_eq]
    rfl
  case age | survey | regain | answer | doze =>
    rw [Settings.writeItem, wide, clampItem_bne, clampItem_eq]
    rfl
  case bonuses =>
    simp only [Settings.writeItem, clampItem_bne]
    simp only [clampItem_eq]
    rfl

end Sys2Proof.Machine

/-! # Writes of the tables: operators, channels, destinations -/

namespace Sys2Proof.Machine

set_option Elab.async false

/-! ## What any write of a settings item leaves (R158, R159) -/

/-- A settings item is written: what the write leaves, from select to its last byte. -/
def State.settingTaken (s : State) (address : Nat) (data : List Byte) : State :=
  (s.setTx .cabinet (Transaction.wrote address data)).writeSetting address data

theorem State.writeItem_setting {s : State} {address : Byte} {data : List Byte} (start : s.atStart .cabinet)
    (item : cabinetWriteBytes address.toNat = some data.length) (nonempty : data ≠ []) (low : address.toNat < 24) :
    s.writeItem .cabinet address data = s.settingTaken address.toNat data := by
  rw [State.writeItem_taken s .cabinet address data start (by omega) item nonempty, State.takeWrite,
    State.cabinetWrite_setting _ _ (by omega) (by omega), State.settingTaken]

section
variable (s : State) (address : Nat) (data : List Byte)

theorem State.settings_settingTaken :
    (s.settingTaken address data).settings = (s.settings.write address data).settings := by
  simp only [State.settingTaken, State.writeSetting, State.event]
  split <;> [skip; split] <;> rfl

/-- R159: the write record. -/
theorem State.record_settingTaken : let w := s.settings.write address data
    let x := (s.settingTaken address data).cabinet
    x.lastItem = some address ∧ x.writeResult = w.result ∧ x.clamped = w.clamped ∧
      x.writeCount = s.cabinet.writeCount + 1 := by
  simp only [State.settingTaken, State.writeSetting, State.event]
  split <;> [skip; split] <;> exact ⟨rfl, rfl, rfl, rfl⟩

/-- A write that makes the Channel List neither empty nor non-empty leaves the inner blocks alone. -/
theorem State.part_settingTaken_quiet
    (quiet : (s.settings.write address data).settings.listHasItem = s.settings.listHasItem) :
    (s.settingTaken address data).part = s.part := by
  rw [State.settingTaken, State.writeSetting_quiet (by rw [State.settings_setTx]; exact quiet.symm)]
  rfl

/-- R44: a write that changes the emptiness of the Channel List is an event of the inner blocks. -/
theorem State.part_settingTaken_changed (running : s.isHeld = false)
    (changed : (s.settings.write address data).settings.listHasItem ≠ s.settings.listHasItem) :
    let stored := (s.settings.write address data).settings
    (s.settingTaken address data).part =
      (State.conclude { s with settings := stored } (s.part.listChanged stored s.settings.listHasItem)).part := by
  have loud : ¬ (s.setTx .cabinet (Transaction.wrote address data)).settings.listHasItem =
      (s.settings.write address data).settings.listHasItem := fun same => changed same.symm
  rw [State.settingTaken, State.writeSetting]
  dsimp only
  rw [State.settings_setTx] at loud ⊢
  rw [if_neg loud, State.event_running]
  · rfl
  · exact running

end

theorem toNat_eq_zero_iff {n : Nat} {v : BitVec n} : v.toNat = 0 ↔ v = 0 :=
  ⟨fun zero => BitVec.eq_of_toNat_eq (by rw [zero]; rfl), fun zero => by rw [zero]; rfl⟩

/-! ## The Operator Table (R162) -/

section
variable (g : Settings) (index cls mark : Byte) (carrier : BitVec 16)

/-- The data bytes of an OPERATOR write. -/
def operatorBytes : List Byte := index :: bytes2 carrier.toNat ++ [cls, mark]

theorem pairAt_operatorBytes : pairAt (operatorBytes index cls mark carrier) 1 = carrier.toNat :=
  num2_bytes2 carrier.toNat carrier.isLt

theorem Settings.writeOperator_bytes : g.writeOperator (operatorBytes index cls mark carrier) =
    if 15 < index.toNat ∨ 999 < carrier.toNat then g.badValue
    else if carrier.toNat = 0 then { g with operators := g.operators.set index.toNat none }.written false
    else if 3 < cls.toNat ∨ 1 < mark.toNat then g.badValue
    else
      { g with operators := putOperator index.toNat
                 { carrier := carrier.toNat, cls := cls.toNat, subscribed := mark.toNat == 1 }
                 g.operators }.written false := by
  rw [Settings.writeOperator, pairAt_operatorBytes]
  rfl

variable {g index cls mark carrier}

theorem Settings.writeOperator_refused (bad : 15 < index.toNat ∨ 999 < carrier.toNat ∨
    (carrier ≠ 0 ∧ (3 < cls.toNat ∨ 1 < mark.toNat))) :
    g.writeOperator (operatorBytes index cls mark carrier) = g.badValue := by
  rw [Settings.writeOperator_bytes]
  split
  · rfl
  · next inside =>
    have rest : carrier ≠ 0 ∧ (3 < cls.toNat ∨ 1 < mark.toNat) := by
      rcases bad with high | high | rest
      · exact absurd (Or.inl high) inside
      · exact absurd (Or.inr high) inside
      · exact rest
    rw [if_neg (fun zero => rest.1 (toNat_eq_zero_iff.mp zero)), if_pos rest.2]

theorem Settings.writeOperator_removed (low : index.toNat ≤ 15) (zero : carrier = 0) :
    g.writeOperator (operatorBytes index cls mark carrier) =
      { g with operators := g.operators.set index.toNat none }.written false := by
  have none_carrier := toNat_eq_zero_iff.mpr zero
  rw [Settings.writeOperator_bytes, if_neg (by omega), if_pos none_carrier]

theorem Settings.writeOperator_stored (low : index.toNat ≤ 15) (some_carrier : carrier ≠ 0)
    (carrier_low : carrier.toNat ≤ 999) (cls_low : cls.toNat ≤ 3) (mark_low : mark.toNat ≤ 1) :
    g.writeOperator (operatorBytes index cls mark carrier) =
      { g with operators := putOperator index.toNat
                 { carrier := carrier.toNat, cls := cls.toNat, subscribed := mark.toNat == 1 }
                 g.operators }.written false := by
  rw [Settings.writeOperator_bytes, if_neg (by omega),
    if_neg (fun zero => some_carrier (toNat_eq_zero_iff.mp zero)), if_neg (by omega)]

end

theorem Settings.channels_writeOperator (g : Settings) (data : List Byte) :
    (g.writeOperator data).settings.channels = g.channels ∧ (g.writeOperator data).clamped = false := by
  simp only [Settings.writeOperator]
  split
  · exact ⟨rfl, rfl⟩
  · split
    · exact ⟨rfl, rfl⟩
    · split <;> exact ⟨rfl, rfl⟩

/-! ## The Channel List (R163) -/

theorem Settings.listHasItem_iff (g : Settings) : g.listHasItem = true ↔ ∃ i, some i ∈ g.channels := by
  rw [Settings.listHasItem, List.any_eq_true]
  constructor
  · rintro ⟨o, member, present⟩
    obtain ⟨i, rfl⟩ := Option.isSome_iff_exists.mp present
    exact ⟨i, member⟩
  · rintro ⟨i, member⟩
    exact ⟨some i, member, rfl⟩

theorem gateLengths_contains (gate : Byte) :
    gateLengths.contains gate.toNat = true ↔ gate = 8 ∨ gate = 16 ∨ gate = 32 := by
  rw [List.contains_iff_mem, gateLengths, List.mem_cons, List.mem_cons, List.mem_singleton]
  simp only [← BitVec.toNat_inj]
  rfl

section
variable (g : Settings) (position present band gate : Byte) (ch : BitVec 16)

/-- The data bytes of a CHANNEL write. -/
def channelBytes : List Byte := [position, present, band] ++ bytes2 ch.toNat ++ [gate]

theorem pairAt_channelBytes : pairAt (channelBytes position present band gate ch) 3 = ch.toNat :=
  num2_bytes2 ch.toNat ch.isLt

theorem Settings.writeChannel_bytes : g.writeChannel (channelBytes position present band gate ch) =
    if 63 < position.toNat ∨ 1 < present.toNat then g.badValue
    else if present.toNat = 0 then { g with channels := g.channels.set position.toNat none }.written false
    else if 5 < band.toNat ∨ 4095 < ch.toNat ∨ gateLengths.contains gate.toNat = false then g.badValue
    else
      { g with channels := g.channels.set position.toNat
                 (some { key := { band := band.toNat, channel := ch.toNat }, gate := gate.toNat }) }.written false := by
  rw [Settings.writeChannel, pairAt_channelBytes]
  rfl

variable {g position present band gate ch}

theorem Settings.writeChannel_refused (bad : 63 < position.toNat ∨ 1 < present.toNat ∨
    (present = 1 ∧ (5 < band.toNat ∨ 4095 < ch.toNat ∨ (gate ≠ 8 ∧ gate ≠ 16 ∧ gate ≠ 32)))) :
    g.writeChannel (channelBytes position present band gate ch) = g.badValue := by
  rw [Settings.writeChannel_bytes]
  split
  · rfl
  · next inside =>
    obtain ⟨rfl, item⟩ : present = 1 ∧ (5 < band.toNat ∨ 4095 < ch.toNat ∨ (gate ≠ 8 ∧ gate ≠ 16 ∧ gate ≠ 32)) := by
      rcases bad with high | high | rest
      · exact absurd (Or.inl high) inside
      · exact absurd (Or.inr high) inside
      · exact rest
    have no_gate : gate ≠ 8 ∧ gate ≠ 16 ∧ gate ≠ 32 → gateLengths.contains gate.toNat = false := by
      rintro ⟨h8, h16, h32⟩
      rw [← Bool.not_eq_true, gateLengths_contains]
      rintro (h | h | h)
      · exact h8 h
      · exact h16 h
      · exact h32 h
    rw [if_neg (by decide), if_pos (item.imp_right fun rest => rest.imp_right no_gate)]

theorem Settings.writeChannel_removed (low : position.toNat ≤ 63) (zero : present = 0) :
    g.writeChannel (channelBytes position present band gate ch) =
      { g with channels := g.channels.set position.toNat none }.written false := by
  have absent := toNat_eq_zero_iff.mpr zero
  rw [Settings.writeChannel_bytes, if_neg (by omega), if_pos absent]

theorem Settings.writeChannel_stored (low : position.toNat ≤ 63) (one : present = 1) (band_low : band.toNat ≤ 5)
    (ch_low : ch.toNat ≤ 4095) (known_gate : gate = 8 ∨ gate = 16 ∨ gate = 32) :
    g.writeChannel (channelBytes position present band gate ch) =
      { g with channels := g.channels.set position.toNat
                 (some { key := { band := band.toNat, channel := ch.toNat }, gate := gate.toNat }) }.written
        false := by
  subst one
  have listed : gateLengths.contains gate.toNat = true := (gateLengths_contains gate).mpr known_gate
  rw [Settings.writeChannel_bytes, if_neg (by rw [show (1 : Byte).toNat = 1 from rfl]; omega), if_neg (by decide),
    if_neg]
  rintro (high | high | unlisted)
  · omega
  · omega
  · rw [listed] at unlisted
    cases unlisted

end

theorem Settings.clamped_writeChannel (g : Settings) (data : List Byte) : (g.writeChannel data).clamped = false := by
  simp only [Settings.writeChannel]
  split
  · rfl
  · split
    · rfl
    · split <;> rfl

/-! ## The Survey Engine's answer (R44) -/

section
variable {g : Settings} {p : Part}

theorem Part.requestSweep_claims (kind : BackgroundKind)
    (free : p.survey.state = .notConfigured ∨ p.survey.state = .idle) : p.requestSweep g kind =
      Part.claim g { claimant := .survey, requeued := false }
        { p with survey := { p.survey with state := .waiting, kind := some kind } } := by
  rcases free with h | h <;> rw [Part.requestSweep, h]

theorem Part.listChanged_filled (now : g.listHasItem = true) (state : p.survey.state = .notConfigured)
    (power : p.power.level ≠ .shed) : p.listChanged g false =
      Part.claim g { claimant := .survey, requeued := false }
        { p with survey := { p.survey with state := .waiting, kind := some .full } } := by
  rw [← Part.requestSweep_claims .full (Or.inl state)]
  unfold Part.listChanged
  rw [now, state]
  exact if_neg power

theorem Part.listChanged_filled_shed (now : g.listHasItem = true) (state : p.survey.state = .notConfigured)
    (power : p.power.level = .shed) :
    p.listChanged g false = { p with survey := { p.survey with state := .idle } } := by
  unfold Part.listChanged
  rw [now, state]
  exact if_pos power

theorem Part.listChanged_filled_other (state : p.survey.state ≠ .notConfigured) :
    p.listChanged g false = p := by
  unfold Part.listChanged
  split
  · next h => exact absurd h state
  · next h _ _ => cases h
  · rfl

theorem Part.listChanged_emptied (now : g.listHasItem = false) (state : p.survey.state = .idle) :
    p.listChanged g true = { p with survey := { p.survey with state := .notConfigured } } := by
  unfold Part.listChanged
  rw [now, state]

theorem Part.listChanged_emptied_other (state : p.survey.state ≠ .idle) : p.listChanged g true = p := by
  unfold Part.listChanged
  split
  · next h _ _ => cases h
  · next h => exact absurd h state
  · rfl

end

/-! ## The destinations (R164) -/

section
variable (g : Settings) (selector count : Byte) (digits : List Byte)

/-- The digits in use of a DESTINATIONS write. -/
def usedDigits : List Nat := (digits.take count.toNat).map (·.toNat)

theorem Settings.writeDestinations_bytes : let used := usedDigits count digits
    g.writeDestinations (selector :: count :: digits) =
      if digitCountAllowed selector.toNat count.toNat = false ∨ used.any (9 < ·) then g.badValue
      else if selector.toNat = 0 then { g with opsDigits := used }.written false
      else { g with publicDigits := used }.written false := rfl

theorem digitCountAllowed_iff : digitCountAllowed selector.toNat count.toNat = true ↔
    (selector = 0 ∧ count.toNat ≤ 20) ∨ (selector = 1 ∧ 1 ≤ count.toNat ∧ count.toNat ≤ 6) := by
  by_cases zero : selector = 0
  · subst zero
    simp [digitCountAllowed]
  · by_cases one : selector = 1
    · subst one
      simp [digitCountAllowed]
    · unfold digitCountAllowed
      split
      · next h => exact absurd (BitVec.eq_of_toNat_eq h) zero
      · next h => exact absurd (BitVec.eq_of_toNat_eq h) one
      · exact ⟨nofun, fun given => given.elim (fun h => absurd h.1 zero) fun h => absurd h.1 one⟩

/-- R164, R190: the values a DESTINATIONS write may carry. -/
def GoodDestination : Prop :=
  ((selector = 0 ∧ count.toNat ≤ 20) ∨ (selector = 1 ∧ 1 ≤ count.toNat ∧ count.toNat ≤ 6)) ∧
    ∀ x ∈ usedDigits count digits, x ≤ 9

theorem goodDestination_iff : GoodDestination selector count digits ↔
    ¬ (digitCountAllowed selector.toNat count.toNat = false ∨ (usedDigits count digits).any (9 < ·) = true) := by
  rw [GoodDestination, ← digitCountAllowed_iff, not_or, Bool.not_eq_false, List.any_eq_true]
  simp

variable {g selector count digits}

theorem Settings.writeDestinations_refused (bad : ¬ GoodDestination selector count digits) :
    g.writeDestinations (selector :: count :: digits) = g.badValue := by
  rw [goodDestination_iff, not_not] at bad
  exact if_pos bad

theorem Settings.writeDestinations_ops (good : GoodDestination selector count digits) (ops : selector = 0) :
    g.writeDestinations (selector :: count :: digits) =
      { g with opsDigits := usedDigits count digits }.written false := by
  subst ops
  rw [Settings.writeDestinations_bytes, if_neg ((goodDestination_iff ..).mp good), if_pos (by rfl)]

theorem Settings.writeDestinations_public (good : GoodDestination selector count digits) (pub : selector = 1) :
    g.writeDestinations (selector :: count :: digits) =
      { g with publicDigits := usedDigits count digits }.written false := by
  subst pub
  rw [Settings.writeDestinations_bytes, if_neg ((goodDestination_iff ..).mp good), if_neg (by decide)]

end

theorem Settings.channels_writeDestinations (g : Settings) (data : List Byte) :
    (g.writeDestinations data).settings.channels = g.channels ∧ (g.writeDestinations data).clamped = false := by
  simp only [Settings.writeDestinations]
  split
  · exact ⟨rfl, rfl⟩
  · split <;> exact ⟨rfl, rfl⟩

/-! ## The three writes -/

theorem Settings.listHasItem_of_channels {g h : Settings} (same : g.channels = h.channels) :
    g.listHasItem = h.listHasItem := congrArg (fun l => l.any fun o => o.isSome) same

/-- What a write leaves that the Channel List has no part in. -/
theorem State.settingTaken_apart {s : State} {address : Nat} {data : List Byte}
    (apart : (s.settings.write address data).settings.channels = s.settings.channels ∧
      (s.settings.write address data).clamped = false) : let t := s.settingTaken address data
    t.part = s.part ∧ t.cabinet.lastItem = some address ∧ t.cabinet.clamped = false ∧
      t.cabinet.writeCount = s.cabinet.writeCount + 1 := by
  obtain ⟨channels, unclamped⟩ := apart
  obtain ⟨item, _, clamped, count⟩ := s.record_settingTaken address data
  exact ⟨s.part_settingTaken_quiet address data (Settings.listHasItem_of_channels channels), item,
    clamped.trans unclamped, count⟩

/-- The result and the settings that a write leaves are those of its bytes. -/
theorem State.settingTaken_outcome {s : State} {address : Nat} {data : List Byte} {w : SettingWrite}
    (written : s.settings.write address data = w) : let t := s.settingTaken address data
    t.cabinet.writeResult = w.result ∧ t.settings = w.settings := by
  subst written
  obtain ⟨_, result, _, _⟩ := s.record_settingTaken address data
  exact ⟨result, s.settings_settingTaken address data⟩

theorem exec_operator {s : State} (start : s.atStart .cabinet) (index cls mark : Byte) (carrier : BitVec 16) :
    exec (.operator index carrier cls mark) s =
      .next (s.settingTaken 16 (operatorBytes index cls mark carrier)) :=
  congrArg Host.Outcome.next
    (State.writeItem_setting (address := 16) start rfl (List.cons_ne_nil _ _) (by decide))

theorem exec_channel {s : State} (start : s.atStart .cabinet) (position present band gate : Byte)
    (ch : BitVec 16) : exec (.channel position present band ch gate) s =
      .next (s.settingTaken 17 (channelBytes position present band gate ch)) :=
  congrArg Host.Outcome.next
    (State.writeItem_setting (address := 17) start rfl (List.cons_ne_nil _ _) (by decide))

theorem exec_destinations {s : State} (start : s.atStart .cabinet) (selector count : Byte) {digits : List Byte}
    (whole : digits.length = 20) : exec (.destinations selector count digits) s =
      .next (s.settingTaken 18 (selector :: count :: digits)) :=
  congrArg Host.Outcome.next
    (State.writeItem_setting (address := 18) start
      (by rw [List.length_cons, List.length_cons, whole]; rfl) (List.cons_ne_nil _ _) (by decide))

/-! ## R162, R163 with R44, R164 -/

theorem State.operatorTaken {s : State} (start : s.atStart .cabinet) (index cls mark : Byte) (carrier : BitVec 16) :
    let g := s.settings
    ∃ t, exec (.operator index carrier cls mark) s = .next t ∧ t.part = s.part ∧
      t.cabinet.lastItem = some 16 ∧ t.cabinet.clamped = false ∧
      t.cabinet.writeCount = s.cabinet.writeCount + 1 ∧
      (15 < index.toNat ∨ 999 < carrier.toNat ∨ (carrier ≠ 0 ∧ (3 < cls.toNat ∨ 1 < mark.toNat)) →
        t.cabinet.writeResult = .badValue ∧ t.settings = g) ∧
      (index.toNat ≤ 15 → carrier = 0 → t.cabinet.writeResult = .accepted ∧
        t.settings = { g with operators := g.operators.set index.toNat none }) ∧
      (index.toNat ≤ 15 → carrier ≠ 0 → carrier.toNat ≤ 999 → cls.toNat ≤ 3 → mark.toNat ≤ 1 →
        t.cabinet.writeResult = .accepted ∧
        let stored : OperatorRec := { carrier := carrier.toNat, cls := cls.toNat, subscribed := mark.toNat == 1 }
        let others := g.operators.map fun o => o.filter fun x => x.carrier != carrier.toNat
        t.settings = { g with operators := others.set index.toNat (some stored) }) := by
  obtain ⟨part, item, clamped, count⟩ :=
    State.settingTaken_apart (s := s) (address := 16) (s.settings.channels_writeOperator
      (operatorBytes index cls mark carrier))
  refine ⟨_, exec_operator start index cls mark carrier, part, item, clamped, count, fun bad => ?_,
    fun low zero => ?_, fun low some_carrier carrier_low cls_low mark_low => ?_⟩
  · exact State.settingTaken_outcome (address := 16) (Settings.writeOperator_refused bad)
  · exact State.settingTaken_outcome (address := 16) (Settings.writeOperator_removed low zero)
  · exact State.settingTaken_outcome (address := 16)
      (Settings.writeOperator_stored low some_carrier carrier_low cls_low mark_low)

/-- R44: the Survey Engine follows a write that fills or empties the Channel List. -/
theorem State.channelFollowed {s : State} (running : s.isHeld = false) (data : List Byte) :
    let g := s.settings
    let t := s.settingTaken 17 data
    let follows := fun (p : Part) => t.part = (State.conclude { s with settings := t.settings } p).part
    let survey := s.part.survey
    (t.settings.listHasItem = true → g.listHasItem = false →
      (survey.state = .notConfigured → s.part.power.level ≠ .shed → follows
        (Part.claim t.settings { claimant := .survey, requeued := false }
          { s.part with survey := { survey with state := .waiting, kind := some .full } })) ∧
      (survey.state = .notConfigured → s.part.power.level = .shed →
        follows { s.part with survey := { survey with state := .idle } }) ∧
      (survey.state ≠ .notConfigured → follows s.part)) ∧
    (t.settings.listHasItem = false → g.listHasItem = true →
      (survey.state = .idle → follows { s.part with survey := { survey with state := .notConfigured } }) ∧
      (survey.state ≠ .idle → follows s.part)) := by
  intro g t follows survey
  have settings : t.settings = (g.write 17 data).settings := s.settings_settingTaken 17 data
  have answers : t.settings.listHasItem ≠ g.listHasItem → ∀ p, s.part.listChanged t.settings g.listHasItem = p →
      follows p := by
    intro changed p acts
    have part := s.part_settingTaken_changed 17 data running (settings ▸ changed)
    rw [← settings] at part
    exact part.trans (acts ▸ rfl)
  refine ⟨fun now before => ?_, fun now before => ?_⟩
  · have filled := answers (by rw [now, before]; decide)
    rw [before] at filled
    exact ⟨fun state power => filled _ (Part.listChanged_filled now state power),
      fun state power => filled _ (Part.listChanged_filled_shed now state power),
      fun state => filled _ (Part.listChanged_filled_other state)⟩
  · have emptied := answers (by rw [now, before]; decide)
    rw [before] at emptied
    exact ⟨fun state => emptied _ (Part.listChanged_emptied now state),
      fun state => emptied _ (Part.listChanged_emptied_other state)⟩

theorem State.destinationsTaken {s : State} (start : s.atStart .cabinet) (selector count : Byte) {digits : List Byte}
    (whole : digits.length = 20) : let g := s.settings
    ∃ t, exec (.destinations selector count digits) s = .next t ∧ t.part = s.part ∧
      t.cabinet.lastItem = some 18 ∧ t.cabinet.clamped = false ∧
      t.cabinet.writeCount = s.cabinet.writeCount + 1 ∧
      (¬ GoodDestination selector count digits → t.cabinet.writeResult = .badValue ∧ t.settings = g) ∧
      (GoodDestination selector count digits → selector = 0 → t.cabinet.writeResult = .accepted ∧
        t.settings = { g with opsDigits := usedDigits count digits }) ∧
      (GoodDestination selector count digits → selector = 1 → t.cabinet.writeResult = .accepted ∧
        t.settings = { g with publicDigits := usedDigits count digits }) := by
  obtain ⟨part, item, clamped, written⟩ :=
    State.settingTaken_apart (s := s) (address := 18) (s.settings.channels_writeDestinations
      (selector :: count :: digits))
  exact ⟨_, exec_destinations start selector count whole, part, item, clamped, written,
    fun bad => State.settingTaken_outcome (address := 18) (Settings.writeDestinations_refused bad),
    fun good ops => State.settingTaken_outcome (address := 18) (Settings.writeDestinations_ops good ops),
    fun good pub => State.settingTaken_outcome (address := 18) (Settings.writeDestinations_public good pub)⟩

/-- Settles O51, write by write; the Channel List's with the Survey Engine's answer. -/
theorem tableWrites : Obligations.TableWrites := by
  refine fun s start => ⟨fun index carrier cls mark => State.operatorTaken start index cls mark carrier,
    fun position present band ch gate => ?_, s.settings.listHasItem_iff,
    fun selector count digits whole => State.destinationsTaken start selector count whole⟩
  let data := channelBytes position present band gate ch
  obtain ⟨item, result, clamped, count⟩ := s.record_settingTaken 17 data
  refine ⟨s.settingTaken 17 data, exec_channel start position present band gate ch, item,
    clamped.trans (s.settings.clamped_writeChannel data), count, fun bad => ?_, fun low zero => ?_,
    fun low one band_low ch_low known_gate => ?_, fun quiet => ?_, State.channelFollowed start.1 data⟩
  · have refused : s.settings.write 17 data = s.settings.badValue := Settings.writeChannel_refused bad
    obtain ⟨answer, settings⟩ := State.settingTaken_outcome refused
    exact ⟨answer, settings, s.part_settingTaken_quiet 17 data (by rw [refused]; rfl)⟩
  · exact State.settingTaken_outcome (address := 17) (Settings.writeChannel_removed low zero)
  · exact State.settingTaken_outcome (address := 17)
      (Settings.writeChannel_stored low one band_low ch_low known_gate)
  · rw [State.settings_settingTaken] at quiet
    exact s.part_settingTaken_quiet 17 data quiet

end Sys2Proof.Machine

/-! # Cabinet commands -/

namespace Sys2Proof.Machine

set_option Elab.async false

/-! ## A cabinet command is taken (R171) -/

/-- R171: what a cabinet command other than RESET leaves, with the effect it has, if it is ACCEPTED. -/
def State.commandTaken (s : State) (code parameter : Byte) (result : CommandResult) (effect : Option Part) : State :=
  let u := s.setTx .cabinet (Transaction.wrote 40 [code, parameter])
  let v := (effect.map u.conclude).getD u
  { v with cabinet := v.cabinet.recordCommand code result }

theorem State.commandItem_taken {s : State} (start : s.atStart .cabinet) {code : Byte} (parameter : Byte)
    (no_reset : code ≠ 31) : s.writeItem .cabinet 40 [code, parameter] =
      s.commandTaken code parameter (s.cabinetResult code parameter)
        (if s.cabinetResult code parameter = .accepted then
          some (s.part.cabinetEffect code parameter s.settings) else none) := by
  have written := s.writeItem_taken .cabinet 40 [code, parameter] start (by decide) rfl (by simp)
  have other : ¬ code.toNat = 31 := fun reset => no_reset (BitVec.eq_of_toNat_eq reset)
  have command : s.writeItem .cabinet 40 [code, parameter] =
      (s.setTx .cabinet (Transaction.wrote 40 [code, parameter])).cabinetCommand code parameter := written
  rw [command, State.cabinetCommand, if_neg other]
  have same : (s.setTx .cabinet (Transaction.wrote 40 [code, parameter])).cabinetResult code parameter =
      s.cabinetResult code parameter := rfl
  dsimp only
  rw [same, State.commandTaken]
  split
  · rw [State.event_running]
    · rfl
    · exact start.1
  · rfl

theorem State.commandItem_refused {s : State} (start : s.atStart .cabinet) {code parameter : Byte}
    {result : CommandResult} (no_reset : code ≠ 31) (answer : s.cabinetResult code parameter = result)
    (refused : result ≠ .accepted) :
    s.writeItem .cabinet 40 [code, parameter] = s.commandTaken code parameter result none := by
  rw [State.commandItem_taken start parameter no_reset, answer, if_neg refused]

theorem State.commandItem_accepted {s : State} (start : s.atStart .cabinet) {code parameter : Byte} {effect : Part}
    (no_reset : code ≠ 31) (answer : s.cabinetResult code parameter = .accepted)
    (acts : s.part.cabinetEffect code parameter s.settings = effect) :
    s.writeItem .cabinet 40 [code, parameter] = s.commandTaken code parameter .accepted (some effect) := by
  rw [State.commandItem_taken start parameter no_reset, answer, if_pos rfl, acts]

/-! ## The answers, command by command (Table 9-4) -/

section
variable {p : Part} {g : Settings}

theorem Part.testCallResult_shed (shed : p.power.level = .shed) : p.testCallResult g = .refusedPower :=
  if_pos shed

theorem Part.testCallResult_busy (power : p.power.level ≠ .shed) (busy : p.test.state ≠ .idle) :
    p.testCallResult g = .refusedBusy := by
  rw [Part.testCallResult, if_neg power, if_pos busy]

theorem Part.testCallResult_no_number (power : p.power.level ≠ .shed) (idle : p.test.state = .idle)
    (undialled : g.opsDigits = []) : p.testCallResult g = .refusedState := by
  rw [Part.testCallResult, if_neg power, if_neg (not_not.mpr idle), if_pos undialled]

theorem Part.testCallResult_accepted (power : p.power.level ≠ .shed) (idle : p.test.state = .idle)
    (number : g.opsDigits ≠ []) : p.testCallResult g = .accepted := by
  rw [Part.testCallResult, if_neg power, if_neg (not_not.mpr idle), if_neg number]

theorem Part.startSweepResult_shed (shed : p.power.level = .shed) : p.startSweepResult = .refusedPower :=
  if_pos shed

theorem Part.startSweepResult_no_list (power : p.power.level ≠ .shed) (state : p.survey.state = .notConfigured) :
    p.startSweepResult = .refusedState := by
  rw [Part.startSweepResult, if_neg power, state]

theorem Part.startSweepResult_busy (power : p.power.level ≠ .shed) (busy : p.survey.state = .waiting ∨
    p.survey.state = .sweeping ∨ p.survey.state = .ending) : p.startSweepResult = .refusedBusy := by
  rcases busy with h | h | h <;> rw [Part.startSweepResult, if_neg power, h]

theorem Part.startSweepResult_accepted (power : p.power.level ≠ .shed) (idle : p.survey.state = .idle) :
    p.startSweepResult = .accepted := by
  rw [Part.startSweepResult, if_neg power, idle]

end

/-- R79: the RCU a parameter names. -/
theorem rcuOfParameter_eq {parameter : Byte} {r : RcuId} (names : parameter.toNat = if r = .rcu0 then 0 else 1) :
    rcuOfParameter parameter = some r := by
  cases r <;> rw [rcuOfParameter, names] <;> rfl

theorem rcuOfParameter_high {parameter : Byte} (high : 1 < parameter.toNat) : rcuOfParameter parameter = none := by
  unfold rcuOfParameter
  split
  · omega
  · omega
  · rfl

theorem State.cabinetResult_restore {s : State} {parameter : Byte} {r : RcuId} (rcu : rcuOfParameter parameter = some r) :
    s.cabinetResult 19 parameter = s.part.restoreResult r ∧
      s.part.cabinetEffect 19 parameter s.settings = s.part.restoreRadio r := by
  constructor
  · rw [show s.cabinetResult 19 parameter = match rcuOfParameter parameter with
      | some r => s.part.restoreResult r
      | none => .badValue from rfl, rcu]
  · rw [show s.part.cabinetEffect 19 parameter s.settings = match rcuOfParameter parameter with
      | some r => s.part.restoreRadio r
      | none => s.part from rfl, rcu]

theorem State.cabinetResult_restore_none {s : State} {parameter : Byte} (unnamed : rcuOfParameter parameter = none) :
    s.cabinetResult 19 parameter = .badValue := by
  rw [show s.cabinetResult 19 parameter = match rcuOfParameter parameter with
    | some r => s.part.restoreResult r
    | none => .badValue from rfl, unnamed]

theorem State.cabinetResult_unknown (s : State) {code : Byte} (parameter : Byte) (unknown : code ∉ cabinetCodes) :
    s.cabinetResult code parameter = .badValue := by
  have no_code : ∀ n : Byte, n ∈ cabinetCodes → code.toNat ≠ n.toNat :=
    fun n known same => unknown (BitVec.eq_of_toNat_eq same ▸ known)
  unfold State.cabinetResult
  split
  · exact absurd ‹_› (no_code 16 (by decide))
  · exact absurd ‹_› (no_code 17 (by decide))
  · exact absurd ‹_› (no_code 18 (by decide))
  · exact absurd ‹_› (no_code 19 (by decide))
  · rfl

theorem Part.cabinetEffect_testCall (p : Part) (g : Settings) (parameter : Byte) :
    p.cabinetEffect 16 parameter g = Part.claim g { claimant := .test, requeued := false }
      { p with
        callSequence := p.callSequence + 1, testResult := .running, testSequence := p.callSequence + 1,
        test := { CallRec.initial with state := .queued, sequence := p.callSequence + 1 } } := rfl

theorem Part.cabinetEffect_startSweep {p : Part} (idle : p.survey.state = .idle) (g : Settings) (parameter : Byte) :
    p.cabinetEffect 17 parameter g = Part.claim g { claimant := .survey, requeued := false }
      { p with survey := { p.survey with state := .waiting, kind := some .full } } :=
  Part.requestSweep_claims .full (Or.inr idle)

/-- Settles O52, command by command. -/
theorem cabinetCommandsAct : Obligations.CabinetCommandsAct := by
  intro s parameter start p taken
  have refused : ∀ {code : Byte} {result : CommandResult}, code ≠ 31 → s.cabinetResult code parameter = result →
      result ≠ .accepted → .next (s.writeItem .cabinet 40 [code, parameter]) = taken code result none :=
    fun no_reset answer refused => congrArg Host.Outcome.next (State.commandItem_refused start no_reset answer refused)
  have accepted : ∀ {code : Byte} {effect : Part}, code ≠ 31 → s.cabinetResult code parameter = .accepted →
      p.cabinetEffect code parameter s.settings = effect →
        .next (s.writeItem .cabinet 40 [code, parameter]) = taken code .accepted (some effect) :=
    fun no_reset answer acts => congrArg Host.Outcome.next (State.commandItem_accepted start no_reset answer acts)
  refine ⟨fun shed => ⟨?_, ?_⟩, fun power busy => ?_, fun power idle undialled => ?_, fun power idle number => ?_,
    fun power state => ?_, fun power busy => ?_, fun power idle => ?_, ?_, fun r names => ⟨fun broken => ?_,
    fun whole => ?_⟩, fun high => ?_, fun code unknown => ?_⟩
  · exact refused (code := 16) (by decide) (Part.testCallResult_shed shed) (by decide)
  · exact refused (code := 17) (by decide) (Part.startSweepResult_shed shed) (by decide)
  · exact refused (code := 16) (by decide) (Part.testCallResult_busy power busy) (by decide)
  · exact refused (code := 16) (by decide) (Part.testCallResult_no_number power idle undialled) (by decide)
  · exact accepted (code := 16) (by decide) (Part.testCallResult_accepted power idle number)
      (p.cabinetEffect_testCall s.settings parameter)
  · exact refused (code := 17) (by decide) (Part.startSweepResult_no_list power state) (by decide)
  · exact refused (code := 17) (by decide) (Part.startSweepResult_busy power busy) (by decide)
  · exact accepted (code := 17) (by decide) (Part.startSweepResult_accepted power idle)
      (Part.cabinetEffect_startSweep idle s.settings parameter)
  · exact accepted (code := 18) (by decide) rfl rfl
  · obtain ⟨answer, acts⟩ := State.cabinetResult_restore (s := s) (rcuOfParameter_eq names)
    exact accepted (by decide) (answer.trans (if_pos broken)) acts
  · obtain ⟨answer, _⟩ := State.cabinetResult_restore (s := s) (rcuOfParameter_eq names)
    exact refused (result := .refusedState) (by decide)
      (answer.trans (if_neg (by rw [show (s.part.radio r).broken = false from whole]; decide))) (by decide)
  · exact refused (by decide) (State.cabinetResult_restore_none (rcuOfParameter_high high)) (by decide)
  · have no_reset : code ≠ 31 := fun reset => unknown (reset ▸ by decide)
    exact refused no_reset (s.cabinetResult_unknown parameter unknown) (by decide)

end Sys2Proof.Machine

/-! # The survey timer and the sample timer -/

namespace Sys2Proof.Machine

set_option Elab.async false

section
variable {g : Settings} {p : Part}

/-- R43: the survey after an expiry has counted it. -/
def Survey.counted (v : Survey) : Survey := { v with passCount := if v.passCount < 3 then v.passCount + 1 else 0 }

theorem Part.surveyExpires_shed (shed : p.power.level = .shed) : p.surveyExpires g = p := if_pos shed

theorem Part.surveyExpires_no_list (power : p.power.level ≠ .shed) (state : p.survey.state = .notConfigured) :
    p.surveyExpires g = p := by
  simp only [Part.surveyExpires, if_neg power, state]

theorem Part.surveyExpires_busy (power : p.power.level ≠ .shed) (busy : p.survey.state = .waiting ∨
    p.survey.state = .sweeping ∨ p.survey.state = .ending) :
    p.surveyExpires g = { p with survey := p.survey.counted } := by
  simp only [Part.surveyExpires, if_neg power]
  split
  · next h => rcases busy with busy | busy | busy <;> cases h.symm.trans busy
  · rfl
  · rfl
  · rfl
  · next h => rcases busy with busy | busy | busy <;> cases h.symm.trans busy

theorem Part.surveyExpires_idle (power : p.power.level ≠ .shed) (idle : p.survey.state = .idle) :
    let n := p.survey.counted.passCount
    p.surveyExpires g = Part.claim g { claimant := .survey, requeued := false } { p with survey :=
      { p.survey.counted with
        state := .waiting, kind := some (if n = 0 ∨ p.eligibleCount g < 3 then .full else .refresh) } } := by
  refine Eq.trans ?_ (Part.requestSweep_claims (p := { p with survey := p.survey.counted }) _ (Or.inr idle))
  simp only [Part.surveyExpires, if_neg power]
  split
  · next h => cases h.symm.trans idle
  · next h => cases h.symm.trans idle
  · next h => cases h.symm.trans idle
  · next h => cases h.symm.trans idle
  · rfl

end

/-- R43: the expiry of a running survey timer. -/
theorem exec_surveyTimerExpiry {s : State} (running : s.isHeld = false) (runs : s.part.survey.timer.isSome = true) :
    exec .surveyTimerExpiry s = .next (s.conclude (Part.surveyExpires s.settings { s.part with
      survey := { s.part.survey with timer := some (s.settings.surveyTime s.part.power.level) } })) :=
  congrArg Host.Outcome.next (State.eventIf_taken running (ok := fun p => p.survey.timer.isSome) _ runs)

theorem Part.sampleExpires_taken {p : Part} (runs : p.power.sampleTimer.isSome = true) (v : Microvolts) :
    p.sampleExpires v = Part.requestConversion .battery { p.setLine .battery v with
      power := { p.power with sampleTimer := some 2000000 } } := if_pos runs

/-- Settles O53, by the power level and the engine's state at the expiry. -/
theorem periodicTimers : Obligations.PeriodicTimers := by
  intro s p g n period with'
  refine ⟨fun running runs => ?_, fun v runs => ?_⟩
  · have expires : ∀ q, Part.surveyExpires g (with' { p.survey with timer := some period }) = q →
        exec .surveyTimerExpiry s = .next (s.conclude q) :=
      fun q acts => acts ▸ exec_surveyTimerExpiry running runs
    exact ⟨fun shed => expires _ (Part.surveyExpires_shed shed),
      fun power state => expires _ (Part.surveyExpires_no_list power state),
      fun power busy => expires _ (Part.surveyExpires_busy power busy),
      fun power idle => expires _ (Part.surveyExpires_idle power idle)⟩
  · exact congrArg (fun p => Host.Outcome.next { s with part := p }) (Part.sampleExpires_taken runs v)

end Sys2Proof.Machine

/-! # How an RCU is left, and what a change of level does -/

namespace Sys2Proof.Machine

set_option Elab.async false

/-! ## An RCU that its holder leaves (R64) -/

/-- An RCU whose monitoring, if it runs, has ended (R33). -/
def Radio.endMonitoring (x : Radio) : Radio :=
  if x.measurement.requester = some .callManager then
    { x with gate := GateCounter.cleared, measurement := Measurement.cleared }
  else x

/-- An RCU that its holder has left (R64). -/
def Radio.left (x : Radio) : Radio :=
  let y := x.abandon.endMonitoring
  if y.condition = .camped then { y with condition := .awake } else y

theorem Part.radio_abandonMeasurement (p : Part) (r : RcuId) : (p.abandonMeasurement r).radio r =
    { p.radio r with gate := GateCounter.cleared, measurement := Measurement.cleared } := by
  simp [Part.abandonMeasurement]

theorem Part.radio_endContinuous (p : Part) (r : RcuId) :
    (p.endContinuous r).radio r = (p.radio r).endMonitoring := by
  unfold Part.endContinuous Radio.endMonitoring
  split
  · exact p.radio_abandonMeasurement r
  · rfl

theorem Part.radio_holderLeaves (p : Part) (r : RcuId) : (p.holderLeaves r).radio r = (p.radio r).left := by
  rw [Part.holderLeaves, Part.radio_modRadio_self, Part.radio_endContinuous, Part.abandon, Part.radio_modRadio_self]
  rfl

theorem Part.radio_releaseRcu (p : Part) (r : RcuId) :
    (p.releaseRcu r).radio r = { (p.radio r).left with holder := none } := by
  rw [Part.releaseRcu, Part.radio_modRadio_self, Part.radio_holderLeaves]

theorem Radio.abandon_keeps (x : Radio) : x.abandon.answerTimer = none ∧ x.abandon.holder = x.holder ∧
    x.abandon.sweep = x.sweep ∧ x.abandon.measurement = x.measurement ∧ x.abandon.gate = x.gate := by
  refine ⟨rfl, ?_⟩
  unfold Radio.abandon Radio.retire
  split
  · split <;> exact ⟨rfl, rfl, rfl, rfl⟩
  · exact ⟨rfl, rfl, rfl, rfl⟩

theorem Radio.endMonitoring_keeps (x : Radio) : let y := x.endMonitoring
    y.slot = x.slot ∧ y.tagCounter = x.tagCounter ∧ y.txQueue = x.txQueue ∧ y.answerTimer = x.answerTimer ∧
      y.condition = x.condition ∧ y.holder = x.holder ∧ y.sweep = x.sweep := by
  unfold Radio.endMonitoring
  split <;> exact ⟨rfl, rfl, rfl, rfl, rfl, rfl, rfl⟩

/-- Leaving an RCU touches its slot as an abandonment does, and its condition where it is CAMPED. -/
theorem Radio.left_fields (x : Radio) : let y := x.left
    y.slot = x.abandon.slot ∧ y.tagCounter = x.abandon.tagCounter ∧ y.txQueue = x.abandon.txQueue ∧
      y.answerTimer = none ∧ y.holder = x.holder ∧ y.sweep = x.sweep ∧
      y.measurement = x.abandon.endMonitoring.measurement ∧ y.gate = x.abandon.endMonitoring.gate := by
  obtain ⟨slot, tag, queue, answer, -, holder, sweep⟩ := x.abandon.endMonitoring_keeps
  obtain ⟨stopped, held, swept, -, -⟩ := x.abandon_keeps
  have keeps : ∀ y, y = x.left → y.slot = x.abandon.endMonitoring.slot ∧
      y.tagCounter = x.abandon.endMonitoring.tagCounter ∧ y.txQueue = x.abandon.endMonitoring.txQueue ∧
      y.answerTimer = x.abandon.endMonitoring.answerTimer ∧ y.holder = x.abandon.endMonitoring.holder ∧
      y.sweep = x.abandon.endMonitoring.sweep ∧ y.measurement = x.abandon.endMonitoring.measurement ∧
      y.gate = x.abandon.endMonitoring.gate := by
    rintro y rfl
    unfold Radio.left
    dsimp only
    split <;> exact ⟨rfl, rfl, rfl, rfl, rfl, rfl, rfl, rfl⟩
  obtain ⟨k1, k2, k3, k4, k5, k6, k7, k8⟩ := keeps _ rfl
  exact ⟨k1.trans slot, k2.trans tag, k3.trans queue, k4.trans (answer.trans stopped), k5.trans (holder.trans held),
    k6.trans (sweep.trans swept), k7, k8⟩

theorem Radio.condition_left (x : Radio) :
    x.left.condition = if x.condition = .camped then .awake else x.condition := by
  obtain ⟨-, -, -, -, monitored, -, -⟩ := x.abandon.endMonitoring_keeps
  have same : x.abandon.endMonitoring.condition = x.condition := monitored.trans x.condition_abandon
  unfold Radio.left
  dsimp only
  rw [same]
  split
  · rfl
  · exact same

/-- Monitoring that runs ends with the holder. -/
theorem Radio.left_monitoring {x : Radio} (monitors : x.measurement.requester = some .callManager) :
    x.left.measurement = Measurement.cleared ∧ x.left.gate = GateCounter.cleared := by
  obtain ⟨-, -, -, -, -, -, measurement, gate⟩ := x.left_fields
  obtain ⟨-, -, -, same, -⟩ := x.abandon_keeps
  rw [measurement, gate, Radio.endMonitoring, same, if_pos monitors]
  exact ⟨rfl, rfl⟩

theorem Radio.left_unmonitored {x : Radio} (idle : x.measurement.requester ≠ some .callManager) :
    x.left.measurement = x.measurement ∧ x.left.gate = x.gate := by
  obtain ⟨-, -, -, -, -, -, measurement, gate⟩ := x.left_fields
  obtain ⟨-, -, -, same, sameGate⟩ := x.abandon_keeps
  rw [measurement, gate, Radio.endMonitoring, same, if_neg idle]
  exact ⟨same, sameGate⟩

/-! ## Targets and samples (R176, R177) -/

section
variable (g : Settings) (b : Nat)

theorem sampleTarget_normal : (sampleTarget g .normal b = some .shed ↔ b ≤ g.shedCode) ∧
    (sampleTarget g .normal b = some .warn ↔ g.shedCode < b ∧ b ≤ g.warnCode) ∧
    (sampleTarget g .normal b = none ↔ g.shedCode < b ∧ g.warnCode < b) := by
  dsimp only [sampleTarget]
  split_ifs <;> simp <;> omega

theorem sampleTarget_warn : (sampleTarget g .warn b = some .shed ↔ b ≤ g.shedCode) ∧
    (sampleTarget g .warn b = none ↔ g.shedCode < b ∧ b < g.warnCode + 2) ∧
    (sampleTarget g .warn b = some .normal ↔ g.shedCode < b ∧ g.warnCode + 2 ≤ b) := by
  dsimp only [sampleTarget]
  split_ifs <;> simp <;> omega

theorem sampleTarget_shed :
    (sampleTarget g .shed b = none ↔ b < g.shedCode + 2 ∧ b < g.warnCode + 2) ∧
    (sampleTarget g .shed b = some .warn ↔ g.shedCode + 2 ≤ b ∧ b < g.warnCode + 2) ∧
    (sampleTarget g .shed b = some .normal ↔ g.warnCode + 2 ≤ b) := by
  dsimp only [sampleTarget]
  split_ifs <;> simp <;> omega

theorem PowerMonitor.sample_none {m : PowerMonitor} (none : sampleTarget g m.level b = none) :
    m.sample g b = { m with battery := b, pendingTarget := .none } := by
  simp only [PowerMonitor.sample, none]

theorem PowerMonitor.sample_first {m : PowerMonitor} {t : PowerLevel} (target : sampleTarget g m.level b = some t)
    (first : m.pendingTarget = none) : m.sample g b = { m with battery := b, pendingTarget := some t } := by
  simp only [PowerMonitor.sample, target, first]

theorem PowerMonitor.sample_second {m : PowerMonitor} {t u : PowerLevel} (target : sampleTarget g m.level b = some t)
    (pending : m.pendingTarget = some u) : m.sample g b =
      if sameDirection m.level t u then
        { m with battery := b, level := nearerLevel m.level u t, pendingTarget := none }
      else { m with battery := b, pendingTarget := some t } := by
  simp only [PowerMonitor.sample, target, pending]

theorem PowerMonitor.sample_keeps (m : PowerMonitor) : (m.sample g b).battery = b ∧
    (m.sample g b).resetCause = m.resetCause ∧ (m.sample g b).resetCount = m.resetCount := by
  unfold PowerMonitor.sample
  dsimp only
  split
  · exact ⟨rfl, rfl, rfl⟩
  · exact ⟨rfl, rfl, rfl⟩
  · split <;> exact ⟨rfl, rfl, rfl⟩

end

theorem PowerLevel.depth_eq_code (level : PowerLevel) : level.depth = level.code := by cases level <;> rfl

theorem sameDirection_iff (level a b : PowerLevel) : sameDirection level a b = true ↔
    (level.code < a.code ↔ level.code < b.code) := by
  simp only [sameDirection, PowerLevel.depth_eq_code, beq_iff_eq, decide_eq_decide]

/-! ## The entry to SHED (R54, R143, R179) -/

theorem Part.closeWindow_cases (p : Part) : p.closeWindow = { p with window := none } ∨
    ∃ r, p.rcuOf .window = some r ∧ p.closeWindow = ({ p with window := none } : Part).releaseRcu r := by
  cases window : p.window with
  | none => exact Or.inl (Part.closeWindow_lent fun w hw => by rw [window] at hw; cases hw)
  | some w =>
    by_cases lent : ∃ d, w.state = .lent d
    · exact Or.inl (Part.closeWindow_lent fun v hv => by rw [window] at hv; cases hv; exact lent)
    · have state : w.state = .camping ∨ w.state = .camped := by
        cases h : w.state with
        | camping => exact Or.inl rfl
        | camped => exact Or.inr rfl
        | lent d => exact absurd ⟨d, h⟩ lent
      rw [Part.closeWindow_open window state]
      cases rcu : p.rcuOf .window with
      | none => exact Or.inl rfl
      | some r => exact Or.inr ⟨r, rfl, rfl⟩

theorem Part.closeWindow_keeps (p : Part) : p.closeWindow.survey = p.survey ∧ p.closeWindow.claims = p.claims ∧
    p.closeWindow.power = p.power := by
  obtain h | ⟨r, -, h⟩ := p.closeWindow_cases
  · rw [h]
    exact ⟨rfl, rfl, rfl⟩
  · rw [h]
    simp

/-- The end of the window leaves an RCU alone that the window does not hold. -/
theorem Part.radio_closeWindow {p : Part} {r : RcuId} (other : (p.radio r).holder ≠ some .window) :
    p.closeWindow.radio r = p.radio r := by
  obtain h | ⟨r', rcu, h⟩ := p.closeWindow_cases
  · rw [h, Part.radio_withWindow]
  · have ne : r ≠ r' := fun same => other (same ▸ Part.rcuOf_holder p rcu)
    rw [h, Part.radio_releaseRcu_ne _ ne, Part.radio_withWindow]

theorem Part.levelChanged_stays {p : Part} {old : PowerLevel} (stays : p.power.level ≠ .shed ∨ old = .shed)
    (g : Settings) : p.levelChanged g old = p := by
  refine if_neg ?_
  rintro ⟨now, before⟩
  exact stays.elim (fun h => h now) before

theorem Part.levelChanged_sheds {p : Part} {old : PowerLevel} (now : p.power.level = .shed) (before : old ≠ .shed)
    (g : Settings) : p.levelChanged g old = (p.shedSweep g).closeWindow := if_pos ⟨now, before⟩

section
variable {p : Part} {g : Settings}

theorem Part.shedSweep_rests (rests : p.survey.state = .notConfigured ∨ p.survey.state = .idle ∨
    p.survey.state = .ending) : p.shedSweep g = p := by
  rcases rests with h | h | h <;> rw [Part.shedSweep, h]

theorem Part.shedSweep_waiting (waiting : p.survey.state = .waiting) :
    p.shedSweep g = (p.leaveQueue .survey).surveyIdle g := by
  rw [Part.shedSweep, waiting]

/-- R54: no item is under way, or the item's pair is being taken. -/
def Part.SweepEndsAtOnce (p : Part) (r : RcuId) (c : Sweep) : Prop :=
  (c.phase = .none ∧ c.cursor = none) ∨ (c.phase = .measuring ∧ (p.radio r).measurement.phase = .sampling)

theorem Part.shedSweep_atOnce {r : RcuId} {c : Sweep} (sweeping : p.survey.state = .sweeping)
    (rcu : p.rcuOf .survey = some r) (sweep : (p.radio r).sweep = some c) (atOnce : p.SweepEndsAtOnce r c) :
    p.shedSweep g = p.surveyReleases g r := by
  simp only [Part.shedSweep, sweeping, rcu, sweep]
  rcases atOnce with ⟨phase, cursor⟩ | ⟨phase, sampling⟩
  · simp only [phase, cursor]
  · simp only [phase, sampling]

theorem Part.shedSweep_later {r : RcuId} {c : Sweep} (sweeping : p.survey.state = .sweeping)
    (rcu : p.rcuOf .survey = some r) (sweep : (p.radio r).sweep = some c) (later : ¬ p.SweepEndsAtOnce r c) :
    p.shedSweep g = p.sweepEnding r := by
  simp only [Part.shedSweep, sweeping, rcu, sweep]
  split
  · next phase cursor => exact absurd (Or.inl ⟨phase, cursor⟩) later
  · next phase sampling => exact absurd (Or.inr ⟨phase, sampling⟩) later
  · rfl

theorem Part.call_sweepEnding (p : Part) (r : RcuId) (k : RecId) : (p.sweepEnding r).call k = p.call k := by
  have same : (p.sweepEnding r).call k =
      (((p.abandon r).abandonMeasurement r).modSweep r fun c => { c.dropItem with state := .ending }).call k := by
    cases k <;> rfl
  rw [same]
  simp [Part.modSweep]

theorem Part.radio_sweepEnding (p : Part) (r : RcuId) : (p.sweepEnding r).radio r =
    { (p.radio r).abandon with
      gate := GateCounter.cleared, measurement := Measurement.cleared
      sweep := (p.radio r).abandon.sweep.map fun c => { c.dropItem with state := .ending } } := by
  have same : (p.sweepEnding r).radio r =
      (((p.abandon r).abandonMeasurement r).modSweep r fun c => { c.dropItem with state := .ending }).radio r := by
    cases r <;> rfl
  rw [same, Part.modSweep, Part.radio_modRadio_self, Part.radio_abandonMeasurement, Part.abandon,
    Part.radio_modRadio_self]

theorem Part.sweepEnding_keeps (p : Part) (r : RcuId) : (p.sweepEnding r).claims = p.claims ∧
    (p.sweepEnding r).power = p.power ∧ (p.sweepEnding r).survey = { p.survey with state := .ending } := by
  simp [Part.sweepEnding, Part.modSweep]

theorem Part.surveyReleases_keeps (g : Settings) (p : Part) (r : RcuId) :
    (p.surveyReleases g r).power = p.power ∧ (p.surveyReleases g r).window = p.window := by
  simp [Part.surveyReleases, Part.surveyLosesRcu, Part.surveyIdle]

/-- A sweep that ends takes the measurement of its RCU with it. -/
theorem Part.measurement_surveyReleases (g : Settings) {r : RcuId} {c : Sweep} (sweep : (p.radio r).sweep = some c) :
    ((p.surveyReleases g r).radio r).measurement = Measurement.cleared ∧
      ((p.surveyReleases g r).radio r).gate = GateCounter.cleared := by
  have removed : (p.removeSweep r).radio r =
      { p.radio r with gate := GateCounter.cleared, measurement := Measurement.cleared, sweep := none } := by
    rw [Part.removeSweep, if_pos (by rw [sweep]; rfl), Part.radio_modRadio_self, Part.radio_abandonMeasurement]
  rw [Part.surveyReleases, Part.surveyLosesRcu, Part.radio_releaseRcu, Part.radio_surveyIdle, removed]
  exact Radio.left_unmonitored (by exact nofun)

theorem Part.shedSweep_keeps (g : Settings) (p : Part) :
    (∀ k, (p.shedSweep g).call k = p.call k) ∧ (p.shedSweep g).power = p.power := by
  unfold Part.shedSweep
  split
  · exact ⟨fun k => by rw [Part.call_surveyIdle, Part.call_leaveQueue], rfl⟩
  · split
    · exact ⟨fun _ => rfl, rfl⟩
    · next r _ =>
      obtain ⟨-, -, -, -, -, -, calls⟩ := p.surveyReleases_facts g r
      have released := (p.surveyReleases_keeps g r).1
      split
      · exact ⟨fun _ => rfl, rfl⟩
      · split
        · exact ⟨calls, released⟩
        · exact ⟨calls, released⟩
        · exact ⟨p.call_sweepEnding r, (p.sweepEnding_keeps r).2.1⟩
  · exact ⟨fun _ => rfl, rfl⟩
  · exact ⟨fun _ => rfl, rfl⟩
  · exact ⟨fun _ => rfl, rfl⟩

end

end Sys2Proof.Machine

/-! # Battery samples move the level -/

namespace Sys2Proof.Machine

set_option Elab.async false

/-! ## The entry to SHED, by the state of the sweep (R54) -/

section
variable {p : Part} {g : Settings} {old : PowerLevel}

/-- The inner blocks that a change of level works on are those of `shedSweep`, and the window goes. -/
theorem Part.levelChanged_fields (now : p.power.level = .shed) (before : old ≠ .shed) (g : Settings) :
    let q := p.levelChanged g old
    q.window = none ∧ (∀ k, q.call k = p.call k) ∧ q.power = p.power ∧ q.survey = (p.shedSweep g).survey ∧
      q.claims = (p.shedSweep g).claims := by
  rw [Part.levelChanged_sheds now before g]
  obtain ⟨survey, claims, power⟩ := (p.shedSweep g).closeWindow_keeps
  obtain ⟨calls, samePower⟩ := p.shedSweep_keeps g
  exact ⟨Part.window_closeWindow _, fun k => (Part.call_closeWindow _ k).trans (calls k), power.trans samePower,
    survey, claims⟩

theorem Part.shedSweep_waiting_fields (waiting : p.survey.state = .waiting) :
    (p.shedSweep g).survey = { p.survey with
      state := if g.listHasItem then .idle else .notConfigured, kind := none } ∧
    (p.shedSweep g).claims = p.claims.filter fun w => w.claimant != .survey := by
  rw [Part.shedSweep_waiting waiting]
  exact ⟨rfl, rfl⟩

/-- What the sweep's RCU is left with where the sweep ends at once. -/
theorem Part.shedSweep_atOnce_radio {r : RcuId} {c : Sweep} (sweeping : p.survey.state = .sweeping)
    (rcu : p.rcuOf .survey = some r) (sweep : (p.radio r).sweep = some c) (atOnce : p.SweepEndsAtOnce r c) :
    let x := (p.shedSweep g).closeWindow.radio r
    x.measurement = Measurement.cleared ∧ x.gate = GateCounter.cleared ∧ x.sweep = none ∧ x.holder = none := by
  obtain ⟨noSweep, noHolder, -, -, -, -, -⟩ := p.surveyReleases_facts g r
  obtain ⟨measurement, gate⟩ := Part.measurement_surveyReleases g sweep
  rw [Part.shedSweep_atOnce sweeping rcu sweep atOnce, Part.radio_closeWindow (by rw [noHolder]; exact nofun)]
  exact ⟨measurement, gate, noSweep, noHolder⟩

/-- What the sweep's RCU is left with where the sweep is left to end. -/
theorem Part.shedSweep_later_radio {r : RcuId} {c : Sweep} (sweeping : p.survey.state = .sweeping)
    (rcu : p.rcuOf .survey = some r) (sweep : (p.radio r).sweep = some c) (later : ¬ p.SweepEndsAtOnce r c) :
    (p.shedSweep g).closeWindow.radio r = { (p.radio r).abandon with
      gate := GateCounter.cleared, measurement := Measurement.cleared
      sweep := some { c with state := .ending, phase := .none, item := none, pair := none } } ∧
    (p.radio r).abandon.holder = some .survey := by
  obtain ⟨-, sameHolder, sameSweep, -, -⟩ := (p.radio r).abandon_keeps
  have held : (p.radio r).abandon.holder = some .survey := sameHolder.trans (Part.rcuOf_holder p rcu)
  have ending := p.radio_sweepEnding r
  rw [sameSweep, sweep] at ending
  refine ⟨?_, held⟩
  rw [Part.shedSweep_later sweeping rcu sweep later, Part.radio_closeWindow]
  · exact ending
  · rw [ending]
    dsimp only
    rw [held]
    decide

end

/-! ## ENDING sweeps end, and free RCUs go OFF (R54, R74) -/

theorem Reaction.endSweep_enabled (p : Part) (r : RcuId) : (Reaction.endSweep r).enabled p = true ↔
    (∃ c, (p.radio r).sweep = some c ∧ c.state = .ending) ∧ (p.radio r).slot = none := by
  simp only [Reaction.enabled, Bool.and_eq_true, Option.any_eq_true, beq_iff_eq, Option.isNone_iff_eq_none]

/-- R74: every RCU but the reserve. -/
theorem Part.reserve_ne_iff (p : Part) (r : RcuId) : p.reserve ≠ some r ↔
    (r = .rcu0 → p.radio0.broken = true) ∧ (r = .rcu1 → p.radio0.broken = true → p.radio1.broken = true) := by
  unfold Part.reserve
  cases p.radio0.broken <;> cases p.radio1.broken <;> cases r <;> simp

theorem Reaction.goOff_enabled (p : Part) (r : RcuId) : let x := p.radio r
    (Reaction.goOff r).enabled p = true ↔ p.power.level = .shed ∧ x.holder = none ∧ x.slot = none ∧
      (x.condition = .booting ∨ x.condition = .doze ∨ x.condition = .awake) ∧
      ((r = .rcu0 → p.radio0.broken = true) ∧ (r = .rcu1 → p.radio0.broken = true → p.radio1.broken = true)) := by
  intro x
  have powered : (x.condition = .booting ∨ x.condition = .doze ∨ x.condition = .awake) ↔
      (((x.condition = .booting ∨ x.condition = .doze) ∨ x.condition = .awake) ∨ x.condition = .off) ∧
        x.condition ≠ .off := by
    cases x.condition <;> simp
  rw [← p.reserve_ne_iff r, powered]
  simp only [Reaction.enabled, Radio.isFree, Bool.and_eq_true, Bool.or_eq_true, beq_iff_eq, bne_iff_ne,
    Option.isNone_iff_eq_none]
  exact ⟨fun ⟨⟨⟨level, ⟨holder, slot⟩, condition⟩, on⟩, spare⟩ => ⟨level, holder, slot, ⟨condition, on⟩, spare⟩,
    fun ⟨level, holder, slot, ⟨condition, on⟩, spare⟩ => ⟨⟨⟨level, ⟨holder, slot⟩, condition⟩, on⟩, spare⟩⟩

theorem Part.radio_goOff (p : Part) (r : RcuId) : (p.goOff r).radio r = { p.radio r with
    gate := GateCounter.cleared, measurement := Measurement.cleared, slot := none, answerTimer := none
    readyTimer := none, dozeTimer := none, wakeDue := false, receiver := .empty, condition := .off } := by
  rw [Part.goOff, Part.radio_modRadio_self, Part.supplyOff, Part.radio_modRadio_self, Part.radio_abandonMeasurement]

/-- R177: what a sample makes of the level in force. -/
theorem PowerMonitor.sample_level (g : Settings) (b : Nat) (m : PowerMonitor) : let n := m.sample g b
    (sampleTarget g m.level b = none → n.level = m.level ∧ n.pendingTarget = none) ∧
    (∀ t, sampleTarget g m.level b = some t →
      (m.pendingTarget = none → n.level = m.level ∧ n.pendingTarget = some t) ∧
      (∀ u, m.pendingTarget = some u →
        let down := fun (x : PowerLevel) => m.level.code < x.code
        ((down t ↔ down u) → n.level = nearerLevel m.level u t ∧ n.pendingTarget = none) ∧
        (¬ (down t ↔ down u) → n.level = m.level ∧ n.pendingTarget = some t))) := by
  refine ⟨fun none => ?_, fun t target => ⟨fun first => ?_, fun u pending => ⟨fun same => ?_, fun turned => ?_⟩⟩⟩
  · rw [PowerMonitor.sample_none g b none]
    exact ⟨rfl, rfl⟩
  · rw [PowerMonitor.sample_first g b target first]
    exact ⟨rfl, rfl⟩
  · rw [PowerMonitor.sample_second g b target pending, if_pos ((sameDirection_iff ..).mpr same)]
    exact ⟨rfl, rfl⟩
  · rw [PowerMonitor.sample_second g b target pending, if_neg (fun same => turned ((sameDirection_iff ..).mp same))]
    exact ⟨rfl, rfl⟩

theorem nearerLevel_eq (level t u : PowerLevel) :
    let far := fun (x : PowerLevel) => (x.code - level.code) + (level.code - x.code)
    nearerLevel level u t = if far t < far u then t else u := by
  simp only [nearerLevel, PowerLevel.distance, PowerLevel.depth_eq_code, Nat.add_comm]

/-- Settles O54: the targets, the sample, the change of level, and the two reactions. -/
theorem batterySamplesMoveTheLevel : Obligations.BatterySamplesMoveTheLevel := by
  refine ⟨fun g b gap => ?_, fun g b m => ?_, fun g p old => ⟨fun stays => Part.levelChanged_stays stays g,
    fun now before => ?_⟩, fun g p r => ⟨Reaction.endSweep_enabled p r, fun c _ => ?_⟩, fun g p r =>
    ⟨Reaction.goOff_enabled p r, ?_⟩⟩
  · obtain ⟨normalShed, normalWarn, normalNone⟩ := sampleTarget_normal g b
    obtain ⟨warnShed, warnNone, warnNormal⟩ := sampleTarget_warn g b
    obtain ⟨shedNone, shedWarn, shedNormal⟩ := sampleTarget_shed g b
    exact ⟨normalShed, normalWarn, normalNone.trans (by omega), warnShed, warnNone, warnNormal.trans (by omega),
      shedNone.trans (by omega), shedWarn, shedNormal⟩
  · obtain ⟨battery, cause, count⟩ := m.sample_keeps g b
    obtain ⟨none, level⟩ := m.sample_level g b
    refine ⟨battery, cause, count, none, fun t target => ?_⟩
    obtain ⟨first, second⟩ := level t target
    refine ⟨first, fun u pending => ?_⟩
    obtain ⟨moves, turns⟩ := second u pending
    exact ⟨fun same => (moves same).imp_left fun near => near.trans (nearerLevel_eq m.level t u), turns⟩
  · obtain ⟨window, calls, power, survey, claims⟩ := Part.levelChanged_fields now before g
    refine ⟨window, calls, power, fun rests => ?_, fun waiting => ?_, fun r c sweeping rcu sweep => ?_⟩
    · rw [survey, claims, Part.shedSweep_rests rests]
      exact ⟨rfl, rfl⟩
    · rw [survey, claims]
      exact Part.shedSweep_waiting_fields waiting
    · intro atOnce
      rw [survey, claims, Part.levelChanged_sheds now before g]
      by_cases ends : atOnce
      · obtain ⟨measurement, gate, noSweep, noHolder⟩ := Part.shedSweep_atOnce_radio (g := g) sweeping rcu sweep ends
        obtain ⟨-, -, -, surveyEnds, sameClaims, -, -⟩ := p.surveyReleases_facts g r
        rw [measurement, gate, noSweep, noHolder, Part.shedSweep_atOnce sweeping rcu sweep ends]
        exact ⟨sameClaims, rfl, rfl, fun _ => ⟨surveyEnds, rfl, rfl⟩, fun later => absurd ends later⟩
      · obtain ⟨radio, held⟩ := Part.shedSweep_later_radio (g := g) sweeping rcu sweep ends
        obtain ⟨sameClaims, -, ending⟩ := p.sweepEnding_keeps r
        rw [radio, Part.shedSweep_later sweeping rcu sweep ends]
        refine ⟨sameClaims, rfl, rfl, fun now => absurd now ends, fun _ => ⟨ending, held, rfl,
          fun o slot issuer live => ⟨_, congrArg Radio.slot (Radio.abandon_live slot issuer live), rfl⟩⟩⟩
  · obtain ⟨noSweep, noHolder, other, survey, claims, -, calls⟩ := p.surveyReleases_facts g r
    exact ⟨noSweep, noHolder, other, survey, claims, (p.surveyReleases_keeps g r).2, calls⟩
  · rintro y rfl
    rw [show (Reaction.goOff r).run g p = p.goOff r from rfl, Part.radio_goOff]
    exact ⟨rfl, rfl, rfl, rfl, rfl⟩

end Sys2Proof.Machine

/-! # The claim queue and the claims -/

namespace Sys2Proof.Machine

set_option Elab.async false

/-! ## The queue (R82) -/

/-- R82: a claimant joins behind all that it does not pass, where the queue is in priority order. -/
theorem joinQueue_splits (w : Waiting) : ∀ claims : List Waiting, claims.Pairwise (fun a b => a.rank ≤ b.rank) →
    ∃ front back, claims = front ++ back ∧ joinQueue w claims = front ++ w :: back ∧
      (∀ x ∈ front, x.rank ≤ w.rank) ∧ (∀ x ∈ back, w.rank < x.rank)
  | [], _ => ⟨[], [], rfl, rfl, nofun, nofun⟩
  | x :: rest, ordered => by
    obtain ⟨behind, orderedRest⟩ := List.pairwise_cons.mp ordered
    by_cases passes : w.rank < x.rank
    · refine ⟨[], x :: rest, rfl, if_pos passes, nofun, fun y member => ?_⟩
      obtain rfl | member := List.mem_cons.mp member
      · exact passes
      · exact passes.trans_le (behind y member)
    · obtain ⟨front, back, whole, joined, ahead, after⟩ := joinQueue_splits w rest orderedRest
      refine ⟨x :: front, back, by rw [whole]; rfl, ?_, fun y member => ?_, after⟩
      · rw [joinQueue, if_neg passes, joined]
        rfl
      · obtain rfl | member := List.mem_cons.mp member
        · exact Nat.not_lt.mp passes
        · exact ahead y member

theorem joinQueue_ordered {w : Waiting} {claims : List Waiting}
    (ordered : claims.Pairwise fun a b => a.rank ≤ b.rank) :
    (joinQueue w claims).Pairwise fun a b => a.rank ≤ b.rank := by
  obtain ⟨front, back, whole, joined, ahead, after⟩ := joinQueue_splits w claims ordered
  rw [whole, List.pairwise_append] at ordered
  obtain ⟨orderedFront, orderedBack, across⟩ := ordered
  rw [joined, List.pairwise_append, List.pairwise_cons]
  refine ⟨orderedFront, ⟨fun y member => (after y member).le, orderedBack⟩, fun x inFront y member => ?_⟩
  obtain rfl | member := List.mem_cons.mp member
  · exact ahead x inFront
  · exact across x inFront y member

/-- R82: the panel class stands ahead, and in it the claims entered again. -/
theorem Waiting.rank_panel {w : Waiting} (panel : w.claimant.isPanel = true) :
    w.rank = if w.requeued then 0 else 1 := by
  cases claimant : w.claimant with
  | sideA => cases requeued : w.requeued <;> rw [Waiting.rank, claimant, requeued] <;> rfl
  | sideB => cases requeued : w.requeued <;> rw [Waiting.rank, claimant, requeued] <;> rfl
  | window => cases claimant ▸ panel
  | test => cases claimant ▸ panel
  | survey => cases claimant ▸ panel

theorem Waiting.rank_window {w : Waiting} (window : w.claimant = .window) : w.rank = 2 := by
  rw [Waiting.rank, window]

theorem Waiting.rank_test {w : Waiting} (test : w.claimant = .test) : w.rank = 3 := by
  rw [Waiting.rank, test]

theorem Waiting.rank_survey {w : Waiting} (survey : w.claimant = .survey) : w.rank = 4 := by
  rw [Waiting.rank, survey]

theorem Waiting.rank_other {w : Waiting} (other : w.claimant.isPanel = false) : 2 ≤ w.rank := by
  cases claimant : w.claimant with
  | sideA => cases claimant ▸ other
  | sideB => cases claimant ▸ other
  | window => rw [Waiting.rank_window claimant]
  | test => rw [Waiting.rank_test claimant]; decide
  | survey => rw [Waiting.rank_survey claimant]; decide

theorem Waiting.rank_panel_lt {a b : Waiting} (panel : a.claimant.isPanel = true)
    (other : b.claimant.isPanel = false) : a.rank < b.rank := by
  have low : a.rank ≤ 1 := by
    rw [Waiting.rank_panel panel]
    split <;> omega
  exact low.trans_lt (Waiting.rank_other other)

theorem Waiting.rank_requeued_lt {a b : Waiting} (panelA : a.claimant.isPanel = true)
    (panelB : b.claimant.isPanel = true) (again : a.requeued = true) (once : b.requeued = false) :
    a.rank < b.rank := by
  rw [Waiting.rank_panel panelA, Waiting.rank_panel panelB, again, once]
  decide

/-! ## How a claim is resolved (R83, R84, R87, R88) -/

/-- R83: a claimant already waits that the claim would stand behind. -/
def Part.Ahead (p : Part) (w : Waiting) : Prop := ∃ x ∈ p.claims, x.rank ≤ w.rank

section
variable {p : Part} {w : Waiting}

theorem Part.claimGrant_eq_none (blocked : p.Ahead w ∨ p.grantNow = none) : p.claimGrant w = none := by
  unfold Part.claimGrant
  split
  · rfl
  · next first =>
    refine blocked.resolve_left fun ahead => first ?_
    simpa [Part.Ahead] using ahead

theorem Part.claimGrant_first {r : RcuId} (first : ¬ p.Ahead w) (near : p.grantNow = some r) :
    p.claimGrant w = some r := by
  rw [Part.claimGrant, if_neg, near]
  intro ahead
  exact first (by simpa [Part.Ahead] using ahead)

variable (g : Settings) (free : p.rcuOf w.claimant = none) (out : p.waits w.claimant = false)
include free out

theorem Part.claim_first {r : RcuId} (first : ¬ p.Ahead w) (near : p.grantNow = some r) :
    p.claim g w = p.grant g w.claimant r := by
  simp [Part.claim, free, out, Part.claimGrant_first first near]

theorem Part.claim_preempts {r : RcuId} (blocked : p.Ahead w ∨ p.grantNow = none)
    (panel : w.claimant.isPanel = true) (victim : p.victimRcu = some r) :
    p.claim g w = p.preempt g w.claimant r := by
  simp [Part.claim, free, out, Part.claimGrant_eq_none blocked, panel, victim]

theorem Part.claim_joins (blocked : p.Ahead w ∨ p.grantNow = none)
    (stands : w.claimant.isPanel = false ∨ p.victimRcu = none) :
    p.claim g w = { p with claims := joinQueue w p.claims } := by
  have none_preempted : (if w.claimant.isPanel then p.victimRcu else none) = none := by
    rcases stands with other | unheld
    · rw [other]
      rfl
    · rw [unheld, ite_self]
  simp [Part.claim, free, out, Part.claimGrant_eq_none blocked, none_preempted]

end

/-! ## Whom the Arbiter names (R84, R87, R88) -/

section
variable {p : Part}

theorem Radio.grantable_iff (x : Radio) : x.grantable = true ↔ x.holder = none ∧ x.broken = false := by
  simp [Radio.grantable]

theorem Part.grantNow_facts {r : RcuId} (near : p.grantNow = some r) : (p.radio r).holder = none ∧
    (p.radio r).broken = false ∧ (p.power.level = .shed → (p.radio r.other).holder = none) := by
  obtain ⟨unheld, whole⟩ := (Radio.grantable_iff _).mp (p.grantNow_grantable near)
  refine ⟨unheld, whole, fun shed => ?_⟩
  obtain ⟨-, allowed⟩ := Option.filter_eq_some_iff.mp near
  simpa [Part.grantAllowed, shed] using allowed

/-- R84: the nearest grantable RCU is as near as any. -/
theorem Part.nearest_of_grantable {r : RcuId} (grantable : (p.radio r).grantable = true) :
    ∃ r', p.nearest = some r' ∧ (p.radio r').condition.distance ≤ (p.radio r).condition.distance := by
  unfold Part.nearest
  split
  · split
    · next nearer =>
      refine ⟨.rcu1, rfl, ?_⟩
      cases r
      · exact nearer.le
      · exact le_refl _
    · next farther =>
      refine ⟨.rcu0, rfl, ?_⟩
      cases r
      · exact le_refl _
      · exact Nat.not_lt.mp farther
  · next only =>
    cases r
    · exact ⟨.rcu0, rfl, le_refl _⟩
    · exact absurd (only.symm.trans grantable) (by decide)
  · next only _ =>
    cases r
    · exact absurd (only.symm.trans grantable) (by decide)
    · exact ⟨.rcu1, rfl, le_refl _⟩
  · next none0 none1 =>
    cases r
    · exact absurd (none0.symm.trans grantable) (by decide)
    · exact absurd (none1.symm.trans grantable) (by decide)

theorem Part.grantNow_of_grantable {r : RcuId} (grantable : (p.radio r).grantable = true)
    (power : p.power.level ≠ .shed) : ∃ r', p.grantNow = some r' ∧
      (p.radio r').condition.distance ≤ (p.radio r).condition.distance := by
  obtain ⟨r', nearest, near⟩ := Part.nearest_of_grantable grantable
  refine ⟨r', ?_, near⟩
  rw [Part.grantNow, nearest, Option.filter_some, if_pos]
  simp [Part.grantAllowed, power]

theorem Part.nearest_of_alike (grantable : ∀ r, (p.radio r).grantable = true)
    (alike : p.radio0.condition = p.radio1.condition) : p.nearest = some .rcu0 := by
  have grantable0 : p.radio0.grantable = true := grantable .rcu0
  have grantable1 : p.radio1.grantable = true := grantable .rcu1
  simp only [Part.nearest, grantable0, grantable1, alike, lt_irrefl, if_false]

/-- R88: the lowest holder is preempted first. -/
theorem Part.victimRcu_lowest {r : RcuId} (victim : p.victimRcu = some r) : (p.radio r).holder = some .survey ∨
    ((p.radio r).holder = some .test ∧ p.rcuOf .survey = none) ∨
    ((p.radio r).holder = some .window ∧ p.rcuOf .survey = none ∧ p.rcuOf .test = none) := by
  unfold Part.victimRcu at victim
  cases survey : p.rcuOf .survey with
  | some a =>
    rw [survey, Option.some_or] at victim
    cases victim
    exact Or.inl (p.rcuOf_holder survey)
  | none =>
    rw [survey, Option.none_or] at victim
    cases test : p.rcuOf .test with
    | some a =>
      rw [test, Option.some_or] at victim
      cases victim
      exact Or.inr (Or.inl ⟨p.rcuOf_holder test, rfl⟩)
    | none =>
      rw [test, Option.none_or] at victim
      exact Or.inr (Or.inr ⟨p.rcuOf_holder victim, rfl, rfl⟩)

end

/-! ## The bring-up (R71) -/

section
variable {x : Radio}

theorem Radio.bringUp_off (off : x.condition = .off) : x.bringUp =
    { x with dozeTimer := none, condition := .booting, readyTimer := some 12000000 } := by
  simp only [Radio.bringUp, off]
  rfl

theorem Radio.bringUp_doze (doze : x.condition = .doze) (empty : x.slot = none) : x.bringUp =
    { Radio.send .wake .rcu { x with dozeTimer := none } with condition := .waking, wakeDue := false } := by
  simp only [Radio.bringUp, doze]
  exact if_pos (by rw [empty]; rfl)

theorem Radio.bringUp_doze_busy (doze : x.condition = .doze) (busy : x.slot ≠ none) : x.bringUp =
    { x with dozeTimer := none, wakeDue := true } := by
  rw [← Option.isSome_iff_ne_none, ← Option.not_isNone, Bool.not_eq_true'] at busy
  simp only [Radio.bringUp, doze, busy]
  rfl

theorem Radio.bringUp_powered (on : x.condition ≠ .off) (awake : x.condition ≠ .doze) :
    x.bringUp = { x with dozeTimer := none } := by
  unfold Radio.bringUp
  dsimp only
  split
  · next off => exact absurd off on
  · next doze => exact absurd doze awake
  all_goals rfl

/-- Only a WAKE that goes out at once touches the slot. -/
theorem Radio.bringUp_busy (busy : x.slot ≠ none) : x.bringUp.slot = x.slot := by
  by_cases off : x.condition = .off
  · rw [Radio.bringUp_off off]
  · by_cases doze : x.condition = .doze
    · rw [Radio.bringUp_doze_busy doze busy]
    · rw [Radio.bringUp_powered off doze]

theorem Radio.answerTimer_bringUp (x : Radio) : x.bringUp.answerTimer = x.answerTimer := by
  by_cases off : x.condition = .off
  · rw [Radio.bringUp_off off]
  · by_cases doze : x.condition = .doze
    · by_cases empty : x.slot = none
      · rw [Radio.bringUp_doze doze empty]
        rfl
      · rw [Radio.bringUp_doze_busy doze empty]
    · rw [Radio.bringUp_powered off doze]

theorem Reaction.wake_enabled (p : Part) (r : RcuId) : (Reaction.wake r).enabled p = true ↔
    (p.radio r).condition = .doze ∧ (p.radio r).slot = none ∧
      ((p.radio r).holder ≠ none ∨ (p.radio r).wakeDue = true) := by
  simp only [Reaction.enabled, Bool.and_eq_true, Bool.or_eq_true, beq_iff_eq, Option.isNone_iff_eq_none,
    Option.isSome_iff_ne_none]
  exact ⟨fun ⟨⟨due, doze⟩, empty⟩ => ⟨doze, empty, due⟩, fun ⟨doze, empty, due⟩ => ⟨⟨due, doze⟩, empty⟩⟩

end

/-! ## The head of the queue (R85, R90) and a stranger's call (R64) -/

section
variable {g : Settings} {p : Part}

theorem Reaction.serve_enabled (p : Part) :
    Reaction.serve.enabled p = true ↔ p.claims ≠ [] ∧ p.grantNow ≠ none := by
  simp only [Reaction.enabled, Bool.and_eq_true, Option.isSome_iff_ne_none, ne_eq, List.head?_eq_none_iff]

theorem Part.serveHead_eq {w : Waiting} {rest : List Waiting} {r : RcuId} (head : p.claims = w :: rest)
    (near : p.grantNow = some r) : p.serveHead g = p.grant g w.claimant r := by
  simp only [Part.serveHead, head, List.head?_cons, near]

theorem Reaction.preemptWaiting_enabled (p : Part) : Reaction.preemptWaiting.enabled p = true ↔
    (∃ w rest, p.claims = w :: rest ∧ w.claimant.isPanel = true) ∧ p.victimRcu ≠ none := by
  simp only [Reaction.enabled, Part.panelHeads, Bool.and_eq_true, Option.isSome_iff_ne_none]
  refine and_congr_left fun _ => ?_
  cases p.claims with
  | nil => simp
  | cons w rest => simp

theorem Part.preemptForHead_eq {w : Waiting} {rest : List Waiting} {r : RcuId} (head : p.claims = w :: rest)
    (victim : p.victimRcu = some r) : p.preemptForHead g = p.preempt g w.claimant r := by
  simp only [Part.preemptForHead, head, List.head?_cons, victim]

theorem CallRec.hasNoCall_iff (c : CallRec) : c.hasNoCall = true ↔
    c.state = .seeking ∨ (c.state = .clearing ∧ c.attempt = none) := by
  simp [CallRec.hasNoCall]

/-- R64: the call is a stranger's unless the holder is a record that has one. -/
theorem Part.strangersCall_iff (p : Part) (h : Option Holder) : p.strangersCall h = true ↔
    ∀ k : RecId, h = some k.holder → (p.call k).hasNoCall = true := by
  constructor
  · rintro strangers k rfl
    cases k <;> exact strangers
  · intro strangers
    cases h with
    | none => rfl
    | some h =>
      cases h with
      | sideA => exact strangers .sideA rfl
      | sideB => exact strangers .sideB rfl
      | test => exact strangers .test rfl
      | window => rfl
      | survey => rfl

theorem Reaction.releaseCall_enabled (p : Part) (r : RcuId) : (Reaction.releaseCall r).enabled p = true ↔
    (p.radio r).condition = .inCall ∧ (p.radio r).slot = none ∧
      ∀ k : RecId, (p.radio r).holder = some k.holder →
        (p.call k).state = .seeking ∨ ((p.call k).state = .clearing ∧ (p.call k).attempt = none) := by
  simp only [Reaction.enabled, Bool.and_eq_true, Part.strangersCall_iff, CallRec.hasNoCall_iff, Radio.idleInCall,
    beq_iff_eq, Option.isNone_iff_eq_none, and_assoc]

end

end Sys2Proof.Machine

/-! # What a grant, a release and a preemption leave -/

namespace Sys2Proof.Machine

set_option Elab.async false

/-! ## A record that seeks (R98) -/

section
variable (g : Settings) (p : Part) (k : RecId)

theorem Part.call_seek_other {k k' : RecId} (ne : k' ≠ k) : (p.seek g k).call k' = p.call k' := by
  unfold Part.seek
  split
  · rw [Part.call_modCall_ne _ _ _ _ ne, Part.buildRegainPlan, Part.call_prune, Part.call_modCall_ne _ _ _ _ ne]
  · exact Part.call_modCall_ne _ _ _ _ ne

theorem Part.call_seek_fresh {k : RecId} (fresh : (p.call k).droppedKey = none) : (p.seek g k).call k =
    { p.call k with state := .seeking, step := .start, radioHeld := true } := by
  rw [Part.seek, if_neg (by rw [fresh]; decide), Part.call_modCall_self]

theorem Part.call_seek_regain {k : RecId} (regains : (p.call k).droppedKey ≠ none) : (p.seek g k).call k =
    { p.call k with
      state := .seeking, step := .next, radioHeld := true, cursor := 0
      plan := p.regainPlan g (p.call k).droppedKey, blindTried := false, dialled := false, droppedKey := none } := by
  rw [Part.seek, if_pos (Option.isSome_iff_ne_none.mpr regains), Part.call_modCall_self, Part.buildRegainPlan,
    Part.call_prune, Part.call_modCall_self]

theorem Part.state_seek : ((p.seek g k).call k).state = .seeking := by
  by_cases fresh : (p.call k).droppedKey = none
  · rw [Part.call_seek_fresh g p fresh]
  · rw [Part.call_seek_regain g p fresh]

/-- Seeking touches the record and the removals of the Cell Table only. -/
theorem Part.seek_keeps : let q := p.seek g k
    q.claims = p.claims ∧ q.window = p.window ∧ q.survey = p.survey ∧ q.testResult = p.testResult ∧
      q.notices = p.notices := by
  unfold Part.seek
  split
  · refine ⟨by simp [Part.buildRegainPlan], by simp [Part.buildRegainPlan], by simp [Part.buildRegainPlan], ?_, ?_⟩
    · exact (Part.testResult_modCall _ k _).trans (p.testResult_modCall k _)
    · exact (Part.notices_modCall _ k _).trans (p.notices_modCall k _)
  · simp

end

/-! ## A grant (R85, R41, R98) -/

section
variable (g : Settings) (p : Part) (r : RcuId)

theorem Part.claims_grant (h : Holder) : (p.grant g h r).claims = p.claims.filter fun w => w.claimant != h := by
  have left : ((p.leaveQueue h).assign r h).claims = p.claims.filter fun w => w.claimant != h := by
    rw [Part.claims_assign]
    rfl
  rw [← left, Part.grant]
  cases h with
  | sideA => exact (Part.seek_keeps g _ .sideA).1
  | sideB => exact (Part.seek_keeps g _ .sideB).1
  | test => exact (Part.seek_keeps g _ .test).1
  | survey => exact Part.claims_modRadio _ _ _
  | window => rfl

theorem Part.grant_record (k : RecId) :
    p.grant g k.holder r = ((p.leaveQueue k.holder).assign r k.holder).seek g k :=
  Part.granted_record g _ k r

theorem Part.radio_grant_record (k : RecId) : (p.grant g k.holder r).radio r =
    Radio.bringUp { p.radio r with holder := some k.holder } := by
  rw [Part.grant_record, Part.radio_seek, Part.assign, Part.radio_modRadio_self, Part.radio_leaveQueue]

theorem Part.call_leaveQueue_assign (h : Holder) (k : RecId) :
    ((p.leaveQueue h).assign r h).call k = p.call k := by
  rw [Part.call_assign, Part.call_leaveQueue]

theorem Part.regainPlan_leaveQueue_assign (h : Holder) (dropped : Option Key) :
    ((p.leaveQueue h).assign r h).regainPlan g dropped = p.regainPlan g dropped :=
  Part.regainPlan_congr (Part.table_assign _ _ _) (Part.stack_assign _ _ _) g dropped

/-- What a grant to a record leaves of the records. -/
theorem Part.call_grant_record (k : RecId) : let c := p.call k
    let q := p.grant g k.holder r
    (∀ k', k' ≠ k → q.call k' = p.call k') ∧
    (c.droppedKey = none → q.call k = { c with state := .seeking, step := .start, radioHeld := true }) ∧
    (c.droppedKey ≠ none →
      q.call k = { c with state := .seeking, step := .next, radioHeld := true, cursor := 0,
                          plan := p.regainPlan g c.droppedKey, blindTried := false, dialled := false,
                          droppedKey := none }) := by
  dsimp only
  rw [Part.grant_record]
  have same := p.call_leaveQueue_assign r k.holder
  refine ⟨fun k' ne => ?_, fun fresh => ?_, fun regains => ?_⟩
  · rw [Part.call_seek_other g _ ne, same]
  · rw [Part.call_seek_fresh g _ (by rw [same]; exact fresh), same]
  · rw [Part.call_seek_regain g _ (by rw [same]; exact regains), same, Part.regainPlan_leaveQueue_assign]

end

/-! ## A release (R86, R64) -/

/-- R60: the abandonment of the holder's order in flight, and of nothing else in the slot. -/
theorem Radio.slot_left (x : Radio) : (x.slot = none → x.left.slot = none) ∧ ∀ o, x.slot = some o →
    (o.issuer = .holder → o.phase ≠ .retired → x.left.slot = some { o with
      phase := .retired, limit := none, cancel := some { tag := x.tagCounter, phase := .ackWait, limit := 500000 } }) ∧
    (o.issuer = .rcu ∨ o.phase = .retired → x.left.slot = some o) := by
  obtain ⟨slot, -⟩ := x.left_fields
  rw [slot]
  refine ⟨fun empty => ?_, fun o pending => ⟨fun holder live => ?_, fun other => ?_⟩⟩
  · rw [Radio.abandon_empty empty, ← empty]
  · rw [Radio.abandon_live pending holder live]
  · have untouched := Radio.abandon_other fun q hq => by
      rw [pending] at hq
      cases hq
      exact other
    rw [untouched, ← pending]

/-! ## A preemption (R89) -/

section
variable (g : Settings) (p : Part) (r : RcuId)

/-- Telling the old holder touches of the RCU its sweep and its measurement only. -/
theorem Part.radio_losesToPreemption (old : Holder) : ∃ gate measurement sweep,
    (p.losesToPreemption g old r).radio r =
      { p.radio r with gate := gate, measurement := measurement, sweep := sweep } := by
  have removed : ∃ gate measurement sweep, (p.removeSweep r).radio r =
      { p.radio r with gate := gate, measurement := measurement, sweep := sweep } := by
    unfold Part.removeSweep
    split
    · exact ⟨_, _, _, by rw [Part.radio_modRadio_self, Part.radio_abandonMeasurement]⟩
    · exact ⟨_, _, _, rfl⟩
  cases old with
  | survey =>
    rw [Part.losesToPreemption, Part.surveyLosesRcu, Part.radio_surveyIdle]
    exact removed
  | test =>
    unfold Part.losesToPreemption Part.testPreempted
    dsimp only
    split
    · rw [Part.radio_modCall, Part.radio_writeTest, Part.radio_recordIdle]
      exact removed
    · rw [Part.radio_recordIdle]
      exact removed
  | window => exact ⟨_, _, _, Part.radio_withWindow p none r⟩
  | sideA => exact ⟨_, _, _, rfl⟩
  | sideB => exact ⟨_, _, _, rfl⟩

theorem Part.losesToPreemption_survey : let q := p.losesToPreemption g .survey r
    (q.radio r).sweep = none ∧
    q.survey = { p.survey with state := if g.listHasItem then .idle else .notConfigured, kind := none } ∧
    q.window = p.window ∧ q.testResult = p.testResult ∧ q.call .test = p.call .test := by
  simp only [Part.losesToPreemption, Part.surveyLosesRcu]
  refine ⟨?_, ?_, ?_, ?_, ?_⟩
  · rw [Part.radio_surveyIdle, Part.sweep_removeSweep]
  · simp [Part.surveyIdle]
  · simp [Part.surveyIdle]
  · simp [Part.surveyIdle]
  · simp

theorem Part.losesToPreemption_window : let q := p.losesToPreemption g .window r
    q.window = none ∧ q.survey = p.survey ∧ q.testResult = p.testResult ∧ q.call .test = p.call .test :=
  ⟨rfl, rfl, rfl, rfl⟩

/-- R119: the TEST record goes IDLE, and its call is written PREEMPTED if it still runs. -/
theorem Part.losesToPreemption_test : let q := p.losesToPreemption g .test r
    (q.radio r).sweep = none ∧ q.window = p.window ∧ q.survey = p.survey ∧ (q.call .test).state = .idle ∧
    (p.testResult = .running →
      q.testResult = .preempted ∧ (q.call .test).lastCause = .preempted ∧ q.notices.testDone = true) ∧
    (p.testResult ≠ .running → q.testResult = p.testResult) := by
  have idle : (((p.removeSweep r).recordIdle .test).call .test).state = .idle := by
    rw [Part.call_recordIdle]
    rfl
  have survey : ((p.removeSweep r).recordIdle .test).survey = p.survey := by
    simp [Part.recordIdle, Part.emptyPlan]
  simp only [Part.losesToPreemption, Part.testPreempted]
  by_cases running : p.testResult = .running
  · rw [if_pos running]
    refine ⟨?_, ?_, ?_, ?_, fun _ => ⟨rfl, ?_, ?_⟩, fun over_already => absurd running over_already⟩
    · rw [Part.radio_modCall, Part.radio_writeTest, Part.radio_recordIdle, Part.sweep_removeSweep]
    · exact (Part.window_recordIdle _ _).trans (Part.window_removeSweep p r)
    · exact survey
    · rw [Part.call_modCall_self]
      exact idle
    · rw [Part.call_modCall_self]
    · rfl
  · rw [if_neg running]
    refine ⟨?_, ?_, survey, idle, fun runs => absurd runs running, fun _ => ?_⟩
    · rw [Part.radio_recordIdle, Part.sweep_removeSweep]
    · rw [Part.window_recordIdle, Part.window_removeSweep]
    · rw [Part.testResult_recordIdle, Part.testResult_removeSweep]

/-- The part after R89, step 1: the RCU has moved to its new holder. -/
def Part.movedTo (h : Holder) : Part := ((p.unbeginItem r).holderLeaves r).assign r h

theorem Part.preempt_eq {old : Holder} (held : (p.radio r).holder = some old) (d : Side) :
    p.preempt g d.record.holder r =
      (((p.movedTo r d.record.holder).losesToPreemption g old r).leaveQueue d.record.holder).seek g d.record := by
  rw [Part.preempt, held]
  exact Part.granted_record g _ d.record r

theorem Part.radio_movedTo (h : Holder) :
    (p.movedTo r h).radio r = Radio.bringUp { (p.radio r).unbegin.left with holder := some h } := by
  rw [Part.movedTo, Part.assign, Part.radio_modRadio_self, Part.radio_holderLeaves, Part.unbeginItem,
    Part.radio_modRadio_self]

theorem Part.movedTo_keeps (h : Holder) : let q := p.movedTo r h
    q.window = p.window ∧ q.survey = p.survey ∧ q.testResult = p.testResult ∧ ∀ k, q.call k = p.call k := by
  simp [Part.movedTo]

/-- What of the RCU's order is left where it is preempted (R89, R53). -/
theorem Part.radio_movedTo_facts (h : Holder) : let x := p.radio r
    let y := (p.movedTo r h).radio r
    y.holder = some h ∧ y.answerTimer = none ∧
    (∀ o, x.begunNow = false → x.slot = some o → o.issuer = .holder → o.phase ≠ .retired →
      y.slot = some { o with
        phase := .retired, limit := none,
        cancel := some { tag := x.tagCounter, phase := .ackWait, limit := 500000 } }) ∧
    (x.begunNow = true → x.condition = .awake → y.slot = none ∧
      y.tagCounter = (if 1 < x.tagCounter then x.tagCounter - 1 else 15) ∧ y.txQueue = x.txQueue.dropLast) ∧
    (x.condition = .camped → y.condition = .awake) := by
  intro x y
  have moved : y = Radio.bringUp { x.unbegin.left with holder := some h } := p.radio_movedTo r h
  have conditions : x.unbegin.condition = x.condition := by
    unfold Radio.unbegin
    split <;> rfl
  have awake_stays : x.unbegin.left.condition = .awake →
      y = { x.unbegin.left with holder := some h, dozeTimer := none } := fun awake =>
    moved.trans (Radio.bringUp_powered (x := { x.unbegin.left with holder := some h })
      (by dsimp only; rw [awake]; decide) (by dsimp only; rw [awake]; decide))
  refine ⟨?_, ?_, fun o idle slot holder live => ?_, fun begun awake => ?_, fun camped => ?_⟩
  · rw [moved, Radio.holder_bringUp]
  · obtain ⟨-, -, -, stopped, -⟩ := x.unbegin.left_fields
    rw [moved, Radio.answerTimer_bringUp]
    exact stopped
  · obtain ⟨-, pending⟩ := x.slot_left
    obtain ⟨retired, -⟩ := pending o slot
    have left := retired holder live
    rw [moved, Radio.unbegin_idle idle, Radio.bringUp_busy]
    · exact left
    · dsimp only
      rw [left]
      exact nofun
  · obtain ⟨slot, tag, queue, -⟩ := x.unbegin.left_fields
    have still : x.unbegin.left.condition = .awake := by
      rw [Radio.condition_left, conditions, awake]
      rfl
    have empty : x.unbegin.abandon = { x.unbegin with answerTimer := none } :=
      Radio.abandon_empty (by rw [Radio.unbegin_begun begun])
    rw [awake_stays still]
    dsimp only
    rw [slot, tag, queue, empty, Radio.unbegin_begun begun]
    exact ⟨rfl, rfl, rfl⟩
  · have still : x.unbegin.left.condition = .awake := by
      rw [Radio.condition_left, conditions, camped]
      rfl
    rw [awake_stays still]
    exact still

end

/-- What the preemption leaves of its part is what telling the old holder left, but for the record that seeks. -/
theorem Part.preempt_fields (g : Settings) {p : Part} {r : RcuId} {old : Holder} (held : (p.radio r).holder = some old)
    (d : Side) : let q := p.preempt g d.record.holder r
    let told := (p.movedTo r d.record.holder).losesToPreemption g old r
    (∀ r', q.radio r' = told.radio r') ∧ q.waits d.record.holder = false ∧ (q.call d.record).state = .seeking ∧
      (∀ k, k ≠ d.record → q.call k = told.call k) ∧ q.window = told.window ∧ q.survey = told.survey ∧
      q.testResult = told.testResult ∧ q.notices = told.notices := by
  dsimp only
  rw [Part.preempt_eq g p r held d]
  generalize (p.movedTo r d.record.holder).losesToPreemption g old r = told
  obtain ⟨claims, window, survey, result, notices⟩ := Part.seek_keeps g (told.leaveQueue d.record.holder) d.record
  refine ⟨fun r' => by rw [Part.radio_seek, Part.radio_leaveQueue], ?_, Part.state_seek g _ _, fun k ne => ?_, window,
    survey, result, notices⟩
  · rw [Part.waits, claims]
    simp [Part.leaveQueue]
  · rw [Part.call_seek_other g _ ne, Part.call_leaveQueue]

end Sys2Proof.Machine

/-! # Claims are resolved in order -/

namespace Sys2Proof.Machine

set_option Elab.async false

/-! ## A preemption, whole (R89, R53, R119) -/

section
variable (g : Settings) {p : Part} {r : RcuId} {old : Holder} (held : (p.radio r).holder = some old)
include held

/-- What a preemption leaves of the RCU that changes hands. -/
theorem Part.radio_preempt_facts (d : Side) : let x := p.radio r
    let y := (p.preempt g d.record.holder r).radio r
    y.holder = some d.record.holder ∧ y.answerTimer = none ∧
    (∀ o, x.begunNow = false → x.slot = some o → o.issuer = .holder → o.phase ≠ .retired →
      y.slot = some { o with
        phase := .retired, limit := none,
        cancel := some { tag := x.tagCounter, phase := .ackWait, limit := 500000 } }) ∧
    (x.begunNow = true → x.condition = .awake → y.slot = none ∧
      y.tagCounter = (if 1 < x.tagCounter then x.tagCounter - 1 else 15) ∧ y.txQueue = x.txQueue.dropLast) ∧
    (x.condition = .camped → y.condition = .awake) := by
  obtain ⟨radios, -⟩ := Part.preempt_fields g held d
  obtain ⟨gate, measurement, sweep, told⟩ := (p.movedTo r d.record.holder).radio_losesToPreemption g r old
  dsimp only
  rw [radios r, told]
  exact p.radio_movedTo_facts r d.record.holder

/-- A preemption leaves the other panel record alone. -/
theorem Part.call_preempt_other (d : Side) :
    (p.preempt g d.record.holder r).call d.other.record = p.call d.other.record := by
  obtain ⟨-, -, -, calls, -⟩ := Part.preempt_fields g held d
  obtain ⟨-, -, -, same⟩ := p.movedTo_keeps r d.record.holder
  rw [calls _ (Side.other_record_ne d), Part.call_losesToPreemption_side, same]

end

section
variable (g : Settings) {p : Part} {r : RcuId} (d : Side)

theorem Part.preempt_survey (held : (p.radio r).holder = some .survey) : let q := p.preempt g d.record.holder r
    (q.radio r).sweep = none ∧
    q.survey = { p.survey with state := if g.listHasItem then .idle else .notConfigured, kind := none } ∧
    q.window = p.window ∧ q.test = p.test ∧ q.testResult = p.testResult := by
  obtain ⟨radios, -, -, calls, window, survey, result, -⟩ := Part.preempt_fields g held d
  obtain ⟨sweep, ends, sameWindow, sameResult, sameTest⟩ := (p.movedTo r d.record.holder).losesToPreemption_survey g r
  obtain ⟨movedWindow, movedSurvey, movedResult, movedCalls⟩ := p.movedTo_keeps r d.record.holder
  refine ⟨(congrArg Radio.sweep (radios r)).trans sweep, survey.trans (ends.trans ?_),
    window.trans (sameWindow.trans movedWindow), ?_, result.trans (sameResult.trans movedResult)⟩
  · rw [movedSurvey]
  · exact (calls .test (Side.test_ne_record d)).trans (sameTest.trans (movedCalls .test))

theorem Part.preempt_window (held : (p.radio r).holder = some .window) : let q := p.preempt g d.record.holder r
    q.window = none ∧ q.survey = p.survey ∧ q.test = p.test ∧ q.testResult = p.testResult := by
  obtain ⟨-, -, -, calls, window, survey, result, -⟩ := Part.preempt_fields g held d
  obtain ⟨gone, sameSurvey, sameResult, sameTest⟩ := (p.movedTo r d.record.holder).losesToPreemption_window g r
  obtain ⟨-, movedSurvey, movedResult, movedCalls⟩ := p.movedTo_keeps r d.record.holder
  exact ⟨window.trans gone, survey.trans (sameSurvey.trans movedSurvey),
    (calls .test (Side.test_ne_record d)).trans (sameTest.trans (movedCalls .test)),
    result.trans (sameResult.trans movedResult)⟩

theorem Part.preempt_test (held : (p.radio r).holder = some .test) : let q := p.preempt g d.record.holder r
    q.window = p.window ∧ q.survey = p.survey ∧ q.test.state = .idle ∧ (q.radio r).sweep = none ∧
    (p.testResult = .running →
      q.testResult = .preempted ∧ q.test.lastCause = .preempted ∧ q.notices.testDone = true) ∧
    (p.testResult ≠ .running → q.testResult = p.testResult) := by
  obtain ⟨radios, -, -, calls, window, survey, result, notices⟩ := Part.preempt_fields g held d
  obtain ⟨sweep, sameWindow, sameSurvey, idle, running, over_already⟩ :=
    (p.movedTo r d.record.holder).losesToPreemption_test g r
  obtain ⟨movedWindow, movedSurvey, movedResult, -⟩ := p.movedTo_keeps r d.record.holder
  have test := calls .test (Side.test_ne_record d)
  refine ⟨window.trans (sameWindow.trans movedWindow), survey.trans (sameSurvey.trans movedSurvey),
    (congrArg CallRec.state test).trans idle, (congrArg Radio.sweep (radios r)).trans sweep, fun runs => ?_,
    fun ended => ?_⟩
  · obtain ⟨written, cause, raised⟩ := running (movedResult.trans runs)
    exact ⟨result.trans written, (congrArg CallRec.lastCause test).trans cause,
      (congrArg CabinetNotices.testDone notices).trans raised⟩
  · exact result.trans ((over_already (fun h => ended (movedResult.symm.trans h))).trans movedResult)

end

/-- R86, R64: what a release leaves. -/
theorem Part.releaseRcu_facts (p : Part) (r : RcuId) (o : Pending) : let q := p.releaseRcu r
    (q.radio r).holder = none ∧ (q.radio r).answerTimer = none ∧ q.radio r.other = p.radio r.other ∧
    ((p.radio r).condition = .camped → (q.radio r).condition = .awake) ∧
    ((p.radio r).condition ≠ .camped → (q.radio r).condition = (p.radio r).condition) ∧
    ((p.radio r).measurement.requester = some .callManager →
      (q.radio r).measurement = Measurement.cleared ∧ (q.radio r).gate.mode = .idle) ∧
    ((p.radio r).slot = none → (q.radio r).slot = none) ∧
    ((p.radio r).slot = some o →
      (o.issuer = .holder → o.phase ≠ .retired → (q.radio r).slot = some { o with
        phase := .retired, limit := none,
        cancel := some { tag := (p.radio r).tagCounter, phase := .ackWait, limit := 500000 } }) ∧
      (o.issuer = .rcu ∨ o.phase = .retired → (q.radio r).slot = some o)) := by
  obtain ⟨-, -, -, stopped, -⟩ := (p.radio r).left_fields
  obtain ⟨empty, pending⟩ := (p.radio r).slot_left
  have condition := (p.radio r).condition_left
  dsimp only
  rw [Part.radio_releaseRcu]
  refine ⟨rfl, stopped, Part.radio_releaseRcu_ne _ (RcuId.other_ne r), fun camped => ?_, fun other => ?_,
    fun monitors => ?_, empty, pending o⟩
  · exact condition.trans (if_pos camped)
  · exact condition.trans (if_neg other)
  · obtain ⟨measurement, gate⟩ := Radio.left_monitoring monitors
    exact ⟨measurement, congrArg GateCounter.mode gate⟩

/-- Settles O55: the queue, the claim, the choice of an RCU, the bring-up, and what each change of holder leaves. -/
theorem claimsAreResolvedInOrder : Obligations.ClaimsAreResolvedInOrder := by
  refine ⟨fun w claims ordered => ⟨joinQueue_ordered ordered, joinQueue_splits w claims ordered,
      fun a b panel other => Waiting.rank_panel_lt panel other,
      fun a b panelA panelB again once => Waiting.rank_requeued_lt panelA panelB again once, fun a b test survey => ?_⟩,
    fun g p w free out => ⟨fun r first near => Part.claim_first g free out first near,
      fun r blocked panel victim => Part.claim_preempts g free out blocked panel victim,
      fun blocked stands => Part.claim_joins g free out blocked stands, fun r near => Part.grantNow_facts near,
      fun r grantable power => Part.grantNow_of_grantable grantable power, fun r victim => Part.victimRcu_lowest victim⟩,
    ⟨by decide, by decide, by decide, by decide, by decide, fun p grantable alike =>
      Part.nearest_of_alike grantable alike⟩,
    fun g p r x => ⟨Radio.bringUp_off, Radio.bringUp_doze, Radio.bringUp_doze_busy, Radio.bringUp_powered,
      Reaction.wake_enabled p r, rfl⟩,
    fun g p h r => ⟨Part.claims_grant g p r h, Part.radio_grant_ne _ (RcuId.other_ne r) g h, ?_, ?_⟩,
    Part.releaseRcu_facts, fun g p d r old held below => ?_,
    fun g p => ⟨Reaction.serve_enabled p, fun w rest r head near => Part.serveHead_eq head near,
      Reaction.preemptWaiting_enabled p, fun w rest r head victim => Part.preemptForHead_eq head victim⟩,
    fun g p r => ⟨Reaction.releaseCall_enabled p r, rfl⟩⟩
  · rw [Waiting.rank_test test, Waiting.rank_survey survey]
    decide
  · rintro rfl
    exact p.grant_survey g r
  · rintro k rfl
    obtain ⟨others, fresh, regains⟩ := Part.call_grant_record g p r k
    exact ⟨Part.radio_grant_record g p r k, others, fresh, regains⟩
  · obtain ⟨holder, stopped, retired, takenBack, camped⟩ := Part.radio_preempt_facts g held d
    obtain ⟨-, out, seeks, -⟩ := Part.preempt_fields g held d
    refine ⟨holder, out, seeks, Part.call_preempt_other g held d, Part.radio_preempt_ne _ (RcuId.other_ne r) g _,
      stopped, retired, takenBack, camped, ?_⟩
    cases old with
    | sideA => cases below
    | sideB => cases below
    | survey =>
      obtain ⟨sweep, survey, window, test, result⟩ := Part.preempt_survey g d held
      exact ⟨nofun, fun _ => window, fun _ => ⟨sweep, survey⟩, fun ne => absurd rfl ne, nofun, fun _ => ⟨test, result⟩⟩
    | test =>
      obtain ⟨window, survey, idle, sweep, running, ended⟩ := Part.preempt_test g d held
      exact ⟨nofun, fun _ => window, nofun, fun _ => survey, fun _ => ⟨idle, sweep, running, ended⟩,
        fun ne => absurd rfl ne⟩
    | window =>
      obtain ⟨gone, survey, test, result⟩ := Part.preempt_window g d held
      exact ⟨fun _ => gone, fun ne => absurd rfl ne, nofun, fun _ => survey, nofun, fun _ => ⟨test, result⟩⟩

end Sys2Proof.Machine
